-- ==== Sys2Proof/Word.lean ====
section
/-! DEFINITION. The plain words of the part: bytes, identities, timestamps, slots, and tables with one cell per slot or per fault kind. -/

namespace Sys2Proof

/-- One byte, as the host link and the node line carry it. -/
abbrev Byte := BitVec 8

/-- A 48-bit identity: a 16-bit maker code, then a 32-bit serial (00_scope 6.3). -/
abbrev Identity := BitVec 48

/-- A value of the 32-bit millisecond clock (R179). -/
abbrev Timestamp := BitVec 32

/-- A directory slot. The manual numbers them 1 to 32; slot number n is the value n - 1. -/
abbrev Slot := Fin 32

/-- A fixed number of like things, in order. -/
abbrev Table (n : Nat) (α : Type) := Vector α n

/-- The cell of a table at an index. -/
def cell {n : Nat} {α : Type} (t : Table n α) (i : Fin n) : α := t[i.val]

/-- The table with one cell replaced. -/
def putCell {n : Nat} {α : Type} (t : Table n α) (i : Fin n) (x : α) : Table n α := t.set i.val x i.isLt

/-- The table with every cell changed in the same way. -/
def mapCells {n : Nat} {α β : Type} (f : α → β) (t : Table n α) : Table n β :=
  ⟨⟨t.toList.map f⟩, by simp⟩

/-- The table whose cells all hold one value. -/
def allCells (n : Nat) {α : Type} (x : α) : Table n α := ⟨⟨List.replicate n x⟩, by simp⟩

/-- The table whose cell at each index is computed from the index. -/
def tabulate (n : Nat) {α : Type} (f : Fin n → α) : Table n α := ⟨⟨(List.finRange n).map f⟩, by simp⟩

/-- A counter of a fixed width that stops at its maximum (00_scope 6.6), raised by `k`. -/
def satAdd {w : Nat} (x : BitVec w) (k : Nat) : BitVec w := BitVec.ofNat w (min (2 ^ w - 1) (x.toNat + k))

/-- The slots in ascending order. -/
def slots : List Slot :=
  [0, 1, 2, 3, 4, 5, 6, 7, 8, 9, 10, 11, 12, 13, 14, 15] ++
    [16, 17, 18, 19, 20, 21, 22, 23, 24, 25, 26, 27, 28, 29, 30, 31]

end Sys2Proof
end

