-- ==== Sys2Proof/Config.lean ====
section
/-! DEFINITION. What an implementation of the part fixes, and the free values: constants with no body, of which nothing can be evaluated or proved. -/

namespace Sys2Proof

/-- R175: 64 bits, fixed in each part at manufacture, no two parts alike (log entry 13). -/
opaque Config.factoryNumber : BitVec 64

/-- R174: whether a MARK phase that was cut short left the verification pattern valid (log entry 9). -/
opaque Config.markWrittenValid : Nat → Bool

/-- R50: whether a survey ending that falls between SURVEY_RESULT's reply and its clearing of the
SURVEY_DONE latch leaves the latch set, that is, whether the clearing came first (log entry 10). -/
opaque Config.latchOutlivesClear : Nat → Bool

/-- R29, R40: whether the node of a number allows these value bytes for an item that may be written, which is the
node's own matter (log entry 21). -/
opaque Config.nodeAllowsValue : Nat → Byte → List Byte → Bool

/-- R176, R178: whether a RESET# that is already low at power-on adds PIN to the cause set (log entry 12). -/
opaque Config.powerOnSeesPinLow : Bool

/-- R176: the start delay, in milliseconds. -/
def Config.startDelay : Nat := 50

end Sys2Proof
end

