-- ==== Sys2Proof/Machine/Types.lean ====
section
/-! DEFINITION. The named values, records and enumerations of the manual, as plain data. -/

namespace Sys2Proof

/-! ## Directory (01_the_node_directory) -/

/-- R1: the five states of an entry. -/
inductive EntryState where
  | free | active | paused | undescribed | lost
  deriving DecidableEq, Repr

/-- R1, R14: the gate mode. -/
inductive GateMode where
  | gated | latched | free
  deriving DecidableEq, Repr

/-- R1: who last decided the gate mode. -/
inductive GateSource where
  | provisional | kind | host
  deriving DecidableEq, Repr

/-- R3: the kind a node gives in its descriptor. -/
inductive NodeKind where
  | sensor | actuator
  deriving DecidableEq, Repr

/-- R3: the record a node gives about itself. -/
structure Descriptor where
  kind : NodeKind
  classCode : Byte
  /-- 1 to 16 bytes. -/
  reportLength : Nat
  /-- 0 to 4 tag bytes, in the order sent. -/
  tags : List Byte
  deriving DecidableEq, Repr

/-- R1: one directory entry. The ring reference is not a field: an entry has a ring exactly when the
report store holds a ring descriptor for its slot (R91). -/
structure Entry where
  state : EntryState
  identity : Option Identity
  descriptor : Option Descriptor
  gateMode : GateMode
  gateSource : GateSource
  gateOpen : Bool
  missCount : Nat
  lastSequence : Option Byte
  nodeAlarm : Bool
  reportsTaken : BitVec 16
  duplicates : BitVec 8
  gaps : BitVec 8
  unrouted : BitVec 16
  seatedAt : Option Timestamp
  rejoins : BitVec 8
  deriving DecidableEq, Repr

/-- R1: the values every field takes whenever the entry enters FREE. -/
def Entry.blank : Entry where
  state := .free
  identity := none
  descriptor := none
  gateMode := .gated
  gateSource := .provisional
  gateOpen := false
  missCount := 0
  lastSequence := none
  nodeAlarm := false
  reportsTaken := 0
  duplicates := 0
  gaps := 0
  unrouted := 0
  seatedAt := none
  rejoins := 0

/-! ## Faults (08_fault_collection_and_reaction) -/

/-- R140: the ten fault kinds. -/
inductive FaultKind where
  | noAnswer | nodeLost | badCheck | collision | lineStuck
  | ringOverflow | directoryFull | identityRepeat | nodeAlarm | sequenceGap
  deriving DecidableEq, Repr

/-- R143: the four reactions. -/
inductive Reaction where
  | ignore | note | alert | hold
  deriving DecidableEq, Repr

/-- R142: the alert state of a kind. -/
inductive AlertState where
  | none | pending | escalated
  deriving DecidableEq, Repr

/-- R141: one raising of a kind. -/
structure Occurrence where
  /-- 0 to 32; 0 means line-wide. -/
  slot : Byte
  timestamp : Timestamp
  detail : Byte
  injected : Bool
  deriving DecidableEq, Repr

/-- R142: the record of one kind. -/
structure FaultRecord where
  count : BitVec 8
  first : Option Occurrence
  latest : Option Occurrence
  alert : AlertState
  deadline : Option Timestamp
  deriving DecidableEq, Repr

/-- R156: a fault record after a full reset. -/
def FaultRecord.blank : FaultRecord where
  count := 0
  first := .none
  latest := .none
  alert := .none
  deadline := .none

/-- The place of a kind in the fault table and the reaction table: the order of the kind codes (R181). -/
def FaultKind.index : FaultKind → Fin 10
  | .noAnswer => 0
  | .nodeLost => 1
  | .badCheck => 2
  | .collision => 3
  | .lineStuck => 4
  | .ringOverflow => 5
  | .directoryFull => 6
  | .identityRepeat => 7
  | .nodeAlarm => 8
  | .sequenceGap => 9

/-- The ten kinds in the order of their codes. -/
def faultKinds : List FaultKind :=
  [.noAnswer, .nodeLost, .badCheck, .collision, .lineStuck,
    .ringOverflow, .directoryFull, .identityRepeat, .nodeAlarm, .sequenceGap]

/-- R140: the default reaction of each kind. -/
def FaultKind.defaultReaction : FaultKind → Reaction
  | .noAnswer => .ignore
  | .nodeLost => .note
  | .badCheck => .ignore
  | .collision => .note
  | .lineStuck => .alert
  | .ringOverflow => .note
  | .directoryFull => .note
  | .identityRepeat => .note
  | .nodeAlarm => .alert
  | .sequenceGap => .ignore

/-- R140, R143: the reaction table when the settings are defaulted. -/
def defaultReactions : Table 10 Reaction :=
  ⟨⟨faultKinds.map FaultKind.defaultReaction⟩, by decide⟩

/-! ## The node line (02_the_node_line) -/

/-- R25: the two levels of the line; low is dominant. -/
inductive Level where
  | dominant | recessive
  deriving DecidableEq, Repr

/-- R31: the fourteen line commands. -/
inductive LineCommand where
  | call | seat | skip | close | desc | poll | get | put | echo | unseat
  | unseatAll | halt | go | keep
  deriving DecidableEq, Repr

/-- R28: a command frame. `target` is the slot addressed; a broadcast has none and carries address 0. -/
structure LineFrame where
  command : LineCommand
  target : Option Slot
  data : List Byte
  deriving DecidableEq, Repr

/-- Which part of the line engine, or which block, a frame is sent for. -/
inductive LineUser where
  | poll | pool | survey | owed | keepAlive | haltRepeat
  deriving DecidableEq, Repr

/-- R32, R41: the phases of a transaction; a CALL has a contest (lead and 56 slots) before its SPACE. -/
inductive LinePhase where
  | send | wait | receive | contest | space
  deriving DecidableEq, Repr

/-- A line transaction in progress. -/
structure Transaction where
  frame : LineFrame
  user : LineUser
  phase : LinePhase
  /-- R34: the phase in which a hold, stop or line reset has ended it, if one has; nothing more of its answer is read. -/
  aborted : Option LinePhase
  /-- R46, R67: the line stuck during the contest, so the contest is broken. -/
  contestBroken : Bool
  /-- R44: this SPACE has already met a collision, which is raised once. -/
  spaceHit : Bool
  deriving DecidableEq, Repr

/-- R32: the outcome of an addressed transaction. ABORTED is handed over by the abort itself (R34). -/
inductive LineOutcome where
  | good (status : Byte) (data : List Byte)
  | silent
  | broken
  deriving DecidableEq, Repr

/-- R128: the sends the line engine can owe. -/
inductive OwedCommand where
  | close | halt | go | unseatAll
  deriving DecidableEq, Repr

/-- R128: an owed send; it has begun when the first of its frames has. -/
structure OwedSend where
  command : OwedCommand
  framesBegun : Nat
  deriving DecidableEq, Repr

/-- R127: the line state. -/
inductive LineState where
  | off | running | survey | held
  deriving DecidableEq, Repr

/-- R78: the kind of the last grant. -/
inductive GrantKind where
  | poll | pool
  deriving DecidableEq, Repr

/-! ## The nodes (02 R38 to R42, 04 R81) -/

/-- R38: the six states a conforming node keeps. -/
inductive NodeState where
  | unseated | contending | withdrawn | skipped
  | seated (slot : Slot) | halted (slot : Slot)
  deriving DecidableEq, Repr

/-- R29, R40: an item a node has, with its value bytes; one that may not be written is read-only. -/
structure NodeItem where
  number : Byte
  value : List Byte
  writable : Bool
  deriving DecidableEq, Repr

/-- R29, R81: what a node powers up with beside its reports: whether its alarm condition stands, and its items. -/
structure NodeCondition where
  alarm : Bool
  items : List NodeItem
  deriving DecidableEq, Repr

/-- R81: a report a node holds. -/
structure NodeReport where
  sequence : Byte
  payload : List Byte
  deriving DecidableEq, Repr

/-- A node on the line, as far as the protocol expects it to keep state (R38 to R42, R81, R139). -/
structure Node where
  /-- Names the physical node: two nodes may carry one identity (R68). -/
  number : Nat
  identity : Identity
  state : NodeState
  /-- The data bytes of its DESC answer. -/
  descriptor : List Byte
  /-- Oldest first; the oldest is the one it offers. -/
  held : List NodeReport
  lastMade : Byte
  alarm : Bool
  items : List NodeItem
  /-- R42: the node heard the CALL of the contest in progress whole, so it takes part in it. -/
  inContest : Bool
  /-- R40: the node answers UNSEAT, and is UNSEATED after the last stop bit of that answer. -/
  leaving : Bool
  /-- R139: the node has dropped a slot and has not been described since. -/
  dropped : Bool
  deriving DecidableEq, Repr

/-! ## Survey (03_survey_and_seating) -/

/-- R49: the state of the survey result record. -/
inductive SurveyState where
  | never | running | complete | failed | limit | aborted
  deriving DecidableEq, Repr

/-- R49: the survey result record. -/
structure SurveyRecord where
  state : SurveyState
  roundsRun : Nat
  newSeated : Nat
  rejoined : Nat
  skipped : Nat
  failedRounds : Nat
  undescribed : Nat
  start : Option Timestamp
  finish : Option Timestamp
  deriving DecidableEq, Repr

/-- R71: the record after a full reset. -/
def SurveyRecord.blank : SurveyRecord where
  state := .never
  roundsRun := 0
  newSeated := 0
  rejoined := 0
  skipped := 0
  failedRounds := 0
  undescribed := 0
  start := none
  finish := none

/-- R51: the phase of the round. -/
inductive RoundPhase where
  | contest | seat | clear | skip | describe
  deriving DecidableEq, Repr

/-- How a round whose last SPACE has not ended yet will end (R55, R59, R60). -/
inductive RoundEnd where
  | failed | served
  deriving DecidableEq, Repr

/-- R43: what a contest hands over: an identity and a check byte, or a broken reading. -/
inductive Reading where
  | clean (identity : Identity) (check : Byte)
  | broken
  deriving DecidableEq, Repr

/-- R51: the round state. -/
structure Round where
  phase : RoundPhase
  /-- The contest reading, once it has been handed over. -/
  reading : Option Reading
  chosen : Option Slot
  attempts : Nat
  /-- The state the entry held when a rejoin was applied to it. -/
  prior : Option EntryState
  /-- The round is decided and waits for the end of its last SPACE. -/
  closing : Option RoundEnd
  deriving DecidableEq, Repr

/-! ## Report store (05_the_report_store) -/

/-- R91: the overflow policy of a ring. -/
inductive RingPolicy where
  | keepOld | keepNew
  deriving DecidableEq, Repr

/-- R91: a ring descriptor. -/
structure Ring where
  base : Nat
  size : Nat
  policy : RingPolicy
  watermark : Nat
  oldest : Nat
  used : Nat
  count : Nat
  pendingLoss : Bool
  stored : BitVec 16
  refused : BitVec 16
  discarded : BitVec 16
  deriving DecidableEq, Repr

/-- R85: a report record, as the intake builds it. -/
structure ReportRecord where
  sequence : Byte
  timestamp : Timestamp
  gap : Bool
  nodeAlarm : Bool
  lossBefore : Bool
  payload : List Byte
  deriving DecidableEq, Repr

/-! ## Request pool (06_node_transactions) -/

/-- R110: the two ECHO patterns. -/
inductive Pattern where
  | a | b
  deriving DecidableEq, Repr

/-- R109, R110: the kind of a pool request with the parameters the kind needs. -/
inductive PoolWork where
  | read (item : Byte)
  | write (item : Byte) (values : List Byte)
  | describe
  | release
  | test (pattern : Pattern)
  deriving DecidableEq, Repr

/-- R109: a request record. -/
structure PoolRequest where
  tag : Byte
  slot : Slot
  work : PoolWork
  attempts : Nat
  deriving DecidableEq, Repr

/-- R115: the outcome of a completed request. -/
inductive PoolOutcome where
  | done | refused | noAnswer | broken | nodeGone | nodeLost | aborted
  deriving DecidableEq, Repr

/-- R115: a completed record. -/
structure Completion where
  request : PoolRequest
  outcome : PoolOutcome
  data : List Byte
  deriving DecidableEq, Repr

/-! ## Host link (09_the_host_link) -/

/-- R157: the two levels of RXD and TXD; high is idle. -/
inductive PinLevel where
  | low | high
  deriving DecidableEq, Repr

/-- R157: a character whose stop bit reads low, and what RXD does from it on. -/
structure BrokenChar where
  /-- The characters after SYNC of the frame that was being received, where one was. -/
  within : Option (List Byte)
  /-- The levels of RXD from the character's start bit to the end of the low level in which its stop bit lies, or beyond,
  before the start bit of the next character that the receiver may take, each sampled in the middle of its bit time. -/
  levels : List PinLevel
  deriving DecidableEq, Repr

/-- The bit times for which RXD is low at the beginning of these levels. -/
def lowRun (levels : List PinLevel) : Nat := (levels.takeWhile fun l => decide (l = .low)).length

/-- R157: the low level in which the stop bit of a broken character lies, begun with its start bit or later, lasts longer
than one character. -/
def longLow (levels : List PinLevel) : Bool :=
  decide (10 < lowRun (levels.take 10).reverse + lowRun (levels.drop 10))

/-- R159: the phases of the receiver. -/
inductive RxPhase where
  | hunt | length | body | check
  deriving DecidableEq, Repr

/-- R159: the receiver and its receive frame buffer. -/
structure Receiver where
  phase : RxPhase
  len : Nat
  /-- The body bytes taken so far, in order. -/
  buffer : List Byte
  /-- The first CRC byte, once it has been taken. -/
  crcFirst : Option Byte
  /-- R162: the frame being followed is an overrun frame. -/
  overrun : Bool
  /-- R157: for how many bit times RXD has still to be high before the next character is taken; 0 but after a low level
  that lasted longer than one character. -/
  highDue : Nat
  deriving DecidableEq, Repr

/-- The receiver in HUNT with its buffer empty. -/
def Receiver.idle : Receiver where
  phase := .hunt
  len := 0
  buffer := []
  crcFirst := none
  overrun := false
  highDue := 0

/-- R165: the status codes. -/
inductive Status where
  | ok | badCheck | unknownRequest | badLength | starting | badValue | badSlot | noNode
  | wrongState | busy | lineOff | lineHeld | poolFull | duplicateTag | unknownTag | alertPending
  | inFlight | gateClosed | overlap | noRing | notPending | notAcked | slotBound | notBound
  deriving DecidableEq, Repr

/-! ## Settings and start (10_stored_settings_start_and_restart) -/

/-- R18: a stored binding. The slot is a slot number. -/
structure StoredBinding where
  slot : Nat
  identity : Identity
  deriving DecidableEq, Repr

/-- R170: the settings image. Its values are raw, because a stored value may lie outside its range (R171). -/
structure SettingsImage where
  /-- bit/s -/
  linkRate : Nat
  /-- kbit/s -/
  lineRate : Nat
  pollPeriod : Nat
  missLimit : Nat
  ackWindow : Nat
  /-- One reaction code per kind, in the order of the kind codes. -/
  reactions : List Byte
  /-- The bit-set byte of the attention enables. -/
  enables : Byte
  bindings : List StoredBinding
  label : List Byte
  patternValid : Bool
  deriving DecidableEq, Repr

/-- R173: the phases of a settings write. -/
inductive WritePhase where
  | write | mark | readback
  deriving DecidableEq, Repr

/-- R172: the store state; a write keeps its phase and its snapshot. -/
inductive StoreState where
  | idle
  | writing (phase : WritePhase) (snapshot : SettingsImage)
  deriving DecidableEq, Repr

/-- R172: the last store result. -/
inductive StoreResult where
  | none | ok | failed
  deriving DecidableEq, Repr

/-- R176: how far the start has come. -/
inductive StartPhase where
  /-- The part has no supply. -/
  | off
  /-- RESET# is low. -/
  | held
  /-- The start delay, with the milliseconds left. -/
  | delay (left : Nat)
  /-- The start has ended; requests are taken. -/
  | running
  deriving DecidableEq, Repr

end Sys2Proof
end

