-- ==== Sys2Proof/Syntax.lean ====
section
/-! DEFINITION. The commands of the block: one constructor for each row of spec/opcode_table.json, in the order of the table. -/

namespace Sys2Proof

/-- The commands. A request carries its parameters as the wire numbers of R180; an event carries what the
world outside the part decides in it (log entries 7, 14, 21). -/
inductive Instr where
  /-- R176: power-on. -/
  | powerOn
  /-- R176: a low level on RESET#. -/
  | resetPinLow
  /-- R176: RESET# returns high. -/
  | resetPinHigh
  /-- R177: the start that an accepted RESTART asked for, at the end of its reply. -/
  | requestedRestart
  /-- R176: the start delay ends. -/
  | startDelayEnd
  /-- R159: a complete frame arrives; the characters after its SYNC, LEN, body and two CRC bytes. -/
  | requestFrame (chars : List Byte)
  /-- R157: a character framing error, or a low level that lasts longer than one character. -/
  | framingError (char : BrokenChar)
  /-- R159: a frame whose LEN byte is outside 1 to 240. -/
  | frameDiscardedByLen (len : Byte)
  /-- R160: a gap of ten character times inside a frame, after SYNC and these characters. -/
  | timeoutError (chars : List Byte)
  /-- R162: a frame whose SYNC is taken while a reply is owed; the characters after its SYNC. -/
  | overrunFrame (chars : List Byte)
  /-- R162: the stop bit of the reply's last character ends. -/
  | replyEnd
  /-- R168. -/
  | status
  /-- R175. -/
  | identify
  /-- R178. -/
  | readCauses
  /-- R178. -/
  | clearCauses
  /-- R177. -/
  | restart
  /-- R172. -/
  | storeSettings
  /-- R175: the 16 bytes of the label. -/
  | setLabel (label : List Byte)
  /-- R158: a link rate code. -/
  | setLinkRate (rate : Byte)
  /-- R167: a bit-set byte. -/
  | setAttention (enables : Byte)
  /-- R173: the WRITE phase ends. -/
  | writePhaseEnd
  /-- R173: the MARK phase ends. -/
  | markPhaseEnd
  /-- R173: READBACK ends; the image it read. -/
  | readbackEnd (found : SettingsImage)
  /-- R129. -/
  | startLine
  /-- R130. -/
  | stopLine
  /-- R131. -/
  | holdLine
  /-- R134. -/
  | resumeLine
  /-- R136. -/
  | resetLine
  /-- R26: the rate in kbit/s. -/
  | setLineRate (rate : Byte)
  /-- R47. -/
  | survey
  /-- R50. -/
  | surveyResult
  /-- R73. -/
  | setPoll (period : BitVec 16) (missLimit : Byte)
  /-- R22. -/
  | listNodes (first : Byte)
  /-- R23. -/
  | nodeInfo (slot : Byte)
  /-- R21. -/
  | dirChanges
  /-- R10. -/
  | pause (slot : Byte)
  /-- R10. -/
  | activate (slot : Byte)
  /-- R13. -/
  | forget (slot : Byte)
  /-- R15. -/
  | openGate (slot : Byte)
  /-- R15. -/
  | closeGate (slot : Byte)
  /-- R16. -/
  | setGateMode (slot mode : Byte)
  /-- R19. -/
  | bind (slot : Byte)
  /-- R20. -/
  | unbind (slot : Byte)
  /-- R20. -/
  | listBindings
  /-- R93. -/
  | assignRing (slot : Byte) (base size : BitVec 16) (policy : Byte) (watermark : BitVec 16)
  /-- R105. -/
  | setRing (slot policy : Byte) (watermark : BitVec 16)
  /-- R95. -/
  | releaseRing (slot : Byte)
  /-- R102. -/
  | fetch (slot max : Byte)
  /-- R103. -/
  | peek (slot skip max : Byte)
  /-- R104. -/
  | flushRing (slot : Byte)
  /-- R106. -/
  | ringInfo (slot : Byte)
  /-- R110, R111. -/
  | nodeRead (tag slot item : Byte)
  /-- R110, R111. -/
  | nodeWrite (tag slot item : Byte) (values : List Byte)
  /-- R110, R111. -/
  | nodeDescribe (tag slot : Byte)
  /-- R110, R111. -/
  | nodeRelease (tag slot : Byte)
  /-- R110, R111. -/
  | nodeTest (tag slot pattern : Byte)
  /-- R121. -/
  | takeResults (max : Byte)
  /-- R122. -/
  | cancel (tag : Byte)
  /-- R154. -/
  | faultSummary
  /-- R155. -/
  | faultRecord (kind : Byte)
  /-- R150. -/
  | faultAck (kind : Byte)
  /-- R152. -/
  | clearFault (kind : Byte)
  /-- R143. -/
  | setReaction (kind reaction : Byte)
  /-- R147: the window in milliseconds. -/
  | setAckWindow (window : BitVec 16)
  /-- R153. -/
  | injectFault (kind slot detail : Byte)
  /-- R148: the deadline of this kind is reached. -/
  | alertDeadlineExpiry (kind : FaultKind)
  /-- R32: an addressed command frame ends; the nodes at which its check failed (R30). -/
  | commandSent (missed : List Nat)
  /-- R32: twenty bit times with no start bit. -/
  | answerWindowExpiry
  /-- R32: an answer frame ends; its characters, status to check byte. -/
  | answerReceived (chars : List Byte)
  /-- R32: the start bit of a 21st answer character. -/
  | twentyFirstCharacter
  /-- R44: dominant is read where every conforming party is recessive. -/
  | collision
  /-- R32: twelve continuous recessive bit times end the SPACE. -/
  | spaceEnd
  /-- R36: 256 bit times of silence in RUNNING. -/
  | keep
  /-- R37: 256 bit times without a frame in HELD. -/
  | haltRepeat
  /-- R46: forty continuous dominant bit times. -/
  | lineStuck
  /-- R46: twelve continuous recessive bit times end a stuck episode. -/
  | stuckEpisodeEnd
  /-- R74: the cycle timer expires. -/
  | cycleTimerExpiry
  /-- R41, R43: the 56th contest slot ends; in which of the 2 bit times of the contest's lead and of the 168 of its slots,
  bit 0 the first, something beside the contending nodes pulled the line dominant. -/
  | contestEnd (lead : BitVec 2) (slots : BitVec 168)
  /-- R32: a start bit inside the answer window. -/
  | answerStart
  /-- R32: a broadcast frame ends; the nodes at which its check failed (R30). -/
  | broadcastFrameEnd (missed : List Nat)
  /-- R174: the supply is lost. -/
  | powerLoss
  /-- R39: a node's idle timer runs out. -/
  | nodeIdleDrop (node : Nat)
  /-- R38: a node powers up or restarts, with its identity and DESC data; it numbers its reports from `first`
  and holds these payloads, and its alarm condition and its items are these (R81, R40). -/
  | nodeRestart (node : Nat) (identity : Identity) (descriptor : List Byte) (first : Byte)
      (payloads : List (List Byte)) (condition : NodeCondition)
  deriving DecidableEq, Repr

end Sys2Proof
end

