-- ==== Sys2Proof/WellFormed.lean ====
section
/-! DEFINITION. Which commands are well formed: the lists in them have the lengths that the frames of the manual give them. -/

namespace Sys2Proof

/-- R159: these characters, after a SYNC, are one whole frame: a LEN of 1 to 240, as many body bytes, two CRC bytes. -/
def wholeFrame : List Byte → Bool
  | [] => false
  | len :: rest => decide (1 ≤ len.toNat) && decide (len.toNat ≤ 240) && decide (rest.length = len.toNat + 2)

/-- R160: these characters, after a SYNC, are the beginning of a frame that is not whole: none at all, or a
LEN of 1 to 240 and fewer characters than it asks for. -/
def partialFrame : List Byte → Bool
  | [] => true
  | len :: rest => decide (1 ≤ len.toNat) && decide (len.toNat ≤ 240) && decide (rest.length < len.toNat + 2)

/-- The levels that follow once RXD has been high for so many more bit times, a low level beginning the count of ten
afresh; none where it has not. -/
def afterHigh : Nat → List PinLevel → List PinLevel
  | 0, levels => levels
  | _ + 1, [] => []
  | n + 1, .high :: rest => afterHigh n rest
  | _ + 1, .low :: rest => afterHigh 10 rest

/-- R157: the levels of RXD once the receiver may take a character again: after a low level longer than one character, once
RXD has been high for one full character time; else after the low level. -/
def levelsAfterBreak (levels : List PinLevel) : List PinLevel :=
  if longLow levels then afterHigh 10 (levels.drop 10) else levels.drop (10 + lowRun (levels.drop 10))

/-- R157: the levels of a character whose stop bit reads low, and of RXD after it, before the start bit of the next
character that the receiver may take. -/
def brokenLevels (levels : List PinLevel) : Bool :=
  decide (levels.head? = some .low) && decide (levels[9]? = some .low) &&
    (levelsAfterBreak levels).all fun l => decide (l = .high)

/-- R183: these data bytes are a descriptor that fits a DESC answer. -/
def descriptorFits : List Byte → Bool
  | kind :: _ :: length :: tags =>
    (decide (kind = 0x01) || decide (kind = 0x02)) && decide (1 ≤ length.toNat) && decide (length.toNat ≤ 16) &&
      decide (tags.length ≤ 4)
  | _ => false

/-- The report length that DESC data bytes give; 0 where they are too short to give one. -/
def descriptorLength : List Byte → Nat
  | _ :: _ :: length :: _ => length.toNat
  | _ => 0

/-- R40: a node's items have 1 to 8 value bytes each (R183), and no two have one number. -/
def itemsFit (items : List NodeItem) : Bool :=
  (items.all fun i => decide (1 ≤ i.value.length) && decide (i.value.length ≤ 8)) &&
    decide (items.map (·.number)).Nodup

/-- Well-formedness of a command. A request's parameters are of fixed widths, so only its lists are checked. -/
def Instr.wellFormed : Instr → Bool
  | .powerOn => true
  | .resetPinLow => true
  | .resetPinHigh => true
  | .requestedRestart => true
  | .startDelayEnd => true
  | .requestFrame chars => wholeFrame chars
  | .framingError char => (match char.within with | none => true | some chars => partialFrame chars) && brokenLevels char.levels
  | .frameDiscardedByLen len => decide (len = 0) || decide (241 ≤ len.toNat)
  | .timeoutError chars => partialFrame chars
  | .overrunFrame chars => wholeFrame chars || partialFrame chars
  | .replyEnd => true
  | .status => true
  | .identify => true
  | .readCauses => true
  | .clearCauses => true
  | .restart => true
  | .storeSettings => true
  | .setLabel label => decide (label.length = 16)
  | .setLinkRate _ => true
  | .setAttention _ => true
  | .writePhaseEnd => true
  | .markPhaseEnd => true
  | .readbackEnd _ => true
  | .startLine => true
  | .stopLine => true
  | .holdLine => true
  | .resumeLine => true
  | .resetLine => true
  | .setLineRate _ => true
  | .survey => true
  | .surveyResult => true
  | .setPoll _ _ => true
  | .listNodes _ => true
  | .nodeInfo _ => true
  | .dirChanges => true
  | .pause _ => true
  | .activate _ => true
  | .forget _ => true
  | .openGate _ => true
  | .closeGate _ => true
  | .setGateMode _ _ => true
  | .bind _ => true
  | .unbind _ => true
  | .listBindings => true
  | .assignRing _ _ _ _ _ => true
  | .setRing _ _ _ => true
  | .releaseRing _ => true
  | .fetch _ _ => true
  | .peek _ _ _ => true
  | .flushRing _ => true
  | .ringInfo _ => true
  | .nodeRead _ _ _ => true
  | .nodeWrite _ _ _ values => decide (1 ≤ values.length) && decide (values.length ≤ 8)
  | .nodeDescribe _ _ => true
  | .nodeRelease _ _ => true
  | .nodeTest _ _ _ => true
  | .takeResults _ => true
  | .cancel _ => true
  | .faultSummary => true
  | .faultRecord _ => true
  | .faultAck _ => true
  | .clearFault _ => true
  | .setReaction _ _ => true
  | .setAckWindow _ => true
  | .injectFault _ _ _ => true
  | .alertDeadlineExpiry _ => true
  | .commandSent _ => true
  | .answerWindowExpiry => true
  | .answerReceived chars => decide (1 ≤ chars.length) && decide (chars.length ≤ 20)
  | .twentyFirstCharacter => true
  | .collision => true
  | .spaceEnd => true
  | .keep => true
  | .haltRepeat => true
  | .lineStuck => true
  | .stuckEpisodeEnd => true
  | .cycleTimerExpiry => true
  | .contestEnd _ _ => true
  | .answerStart => true
  | .broadcastFrameEnd _ => true
  | .powerLoss => true
  | .nodeIdleDrop _ => true
  | .nodeRestart _ identity descriptor _ payloads condition =>
    decide (identity ≠ 0) && descriptorFits descriptor &&
      (payloads.all fun payload => decide (payload.length = descriptorLength descriptor)) && itemsFit condition.items

end Sys2Proof
end

