-- ==== Sys2Proof/Decode.lean ====
section
/-! DEFINITION. Decoding: the opcode table's bits (none), and the request bodies of the host link (R180), with their encoder. -/

namespace Sys2Proof

/-- The command that a word spells by the bits of the opcode table. No row of the table gives bits, so no
word spells one (log entry 28). -/
def decodeTableWord (_nbits _w : Nat) : Option Instr := none

/-- Two bytes, most significant first (00_scope 6.5). -/
def word16 (high low : Byte) : BitVec 16 := BitVec.ofNat 16 (high.toNat * 256 + low.toNat)

/-- A request with no parameters. -/
def params0 (i : Instr) : List Byte → Option Instr
  | [] => some i
  | _ :: _ => none

/-- A request with one parameter byte. -/
def params1 (f : Byte → Instr) : List Byte → Option Instr
  | [a] => some (f a)
  | _ => none

/-- A request with two parameter bytes. -/
def params2 (f : Byte → Byte → Instr) : List Byte → Option Instr
  | [a, b] => some (f a b)
  | _ => none

/-- A request with three parameter bytes. -/
def params3 (f : Byte → Byte → Byte → Instr) : List Byte → Option Instr
  | [a, b, c] => some (f a b c)
  | _ => none

/-- SET_POLL: period (2), miss limit (1). -/
def paramsSetPoll : List Byte → Option Instr
  | [p1, p0, m] => some (.setPoll (word16 p1 p0) m)
  | _ => none

/-- ASSIGN_RING: slot (1), base (2), size (2), policy (1), watermark (2). -/
def paramsAssignRing : List Byte → Option Instr
  | [slot, b1, b0, s1, s0, policy, w1, w0] =>
    some (.assignRing slot (word16 b1 b0) (word16 s1 s0) policy (word16 w1 w0))
  | _ => none

/-- SET_RING: slot (1), policy (1), watermark (2). -/
def paramsSetRing : List Byte → Option Instr
  | [slot, policy, w1, w0] => some (.setRing slot policy (word16 w1 w0))
  | _ => none

/-- SET_ACK_WINDOW: window in ms (2). -/
def paramsSetAckWindow : List Byte → Option Instr
  | [w1, w0] => some (.setAckWindow (word16 w1 w0))
  | _ => none

/-- SET_LABEL: label (16). -/
def paramsSetLabel (label : List Byte) : Option Instr :=
  if label.length = 16 then some (.setLabel label) else none

/-- NODE_WRITE: tag (1), slot (1), item (1), values (1 to 8). -/
def paramsNodeWrite : List Byte → Option Instr
  | tag :: slot :: item :: values =>
    if 1 ≤ values.length ∧ values.length ≤ 8 then some (.nodeWrite tag slot item values) else none
  | _ => none

/-- R180: the request codes, each with the reader of its parameters, which answers none where LEN does not
fit the code. -/
def requestRows : List (Byte × (List Byte → Option Instr)) :=
  [ (0x01, params0 .status),
    (0x02, params0 .identify),
    (0x03, params0 .readCauses),
    (0x04, params0 .clearCauses),
    (0x05, params0 .restart),
    (0x06, params0 .storeSettings),
    (0x07, paramsSetLabel),
    (0x08, params1 .setLinkRate),
    (0x09, params1 .setAttention),
    (0x10, params0 .startLine),
    (0x11, params0 .stopLine),
    (0x12, params0 .holdLine),
    (0x13, params0 .resumeLine),
    (0x14, params0 .resetLine),
    (0x15, params1 .setLineRate),
    (0x16, params0 .survey),
    (0x17, params0 .surveyResult),
    (0x18, paramsSetPoll) ] ++
  [ (0x20, params1 .listNodes),
    (0x21, params1 .nodeInfo),
    (0x22, params0 .dirChanges),
    (0x23, params1 .pause),
    (0x24, params1 .activate),
    (0x25, params1 .forget),
    (0x26, params1 .openGate),
    (0x27, params1 .closeGate),
    (0x28, params2 .setGateMode),
    (0x29, params1 .bind),
    (0x2A, params1 .unbind),
    (0x2B, params0 .listBindings),
    (0x30, paramsAssignRing),
    (0x31, paramsSetRing),
    (0x32, params1 .releaseRing),
    (0x33, params2 .fetch),
    (0x34, params3 .peek),
    (0x35, params1 .flushRing),
    (0x36, params1 .ringInfo) ] ++
  [ (0x40, params3 .nodeRead),
    (0x41, paramsNodeWrite),
    (0x42, params2 .nodeDescribe),
    (0x43, params2 .nodeRelease),
    (0x44, params3 .nodeTest),
    (0x45, params1 .takeResults),
    (0x46, params1 .cancel),
    (0x50, params0 .faultSummary),
    (0x51, params1 .faultRecord),
    (0x52, params1 .faultAck),
    (0x53, params1 .clearFault),
    (0x54, params2 .setReaction),
    (0x55, paramsSetAckWindow),
    (0x56, params3 .injectFault) ]

/-- R164, R180: a request body: its request, or UNKNOWN_REQUEST, or BAD_LENGTH. -/
def decodeBody : List Byte → Except Status Instr
  | [] => .error .unknownRequest
  | code :: params =>
    match requestRows.find? (fun row => row.1 == code) with
    | none => .error .unknownRequest
    | some row =>
      match row.2 params with
      | none => .error .badLength
      | some i => .ok i

/-- The two bytes of a 16-bit field, most significant first. -/
def bytes16 (w : BitVec 16) : List Byte := [BitVec.ofNat 8 (w.toNat / 256), BitVec.ofNat 8 w.toNat]

/-- R180: the body of a request; none for the commands that are not host requests. -/
def encodeBody : Instr → Option (List Byte)
  | .status => some [0x01]
  | .identify => some [0x02]
  | .readCauses => some [0x03]
  | .clearCauses => some [0x04]
  | .restart => some [0x05]
  | .storeSettings => some [0x06]
  | .setLabel label => some (0x07 :: label)
  | .setLinkRate rate => some [0x08, rate]
  | .setAttention enables => some [0x09, enables]
  | .startLine => some [0x10]
  | .stopLine => some [0x11]
  | .holdLine => some [0x12]
  | .resumeLine => some [0x13]
  | .resetLine => some [0x14]
  | .setLineRate rate => some [0x15, rate]
  | .survey => some [0x16]
  | .surveyResult => some [0x17]
  | .setPoll period missLimit => some (0x18 :: bytes16 period ++ [missLimit])
  | .listNodes first => some [0x20, first]
  | .nodeInfo slot => some [0x21, slot]
  | .dirChanges => some [0x22]
  | .pause slot => some [0x23, slot]
  | .activate slot => some [0x24, slot]
  | .forget slot => some [0x25, slot]
  | .openGate slot => some [0x26, slot]
  | .closeGate slot => some [0x27, slot]
  | .setGateMode slot mode => some [0x28, slot, mode]
  | .bind slot => some [0x29, slot]
  | .unbind slot => some [0x2A, slot]
  | .listBindings => some [0x2B]
  | .assignRing slot base size policy watermark =>
    some (0x30 :: slot :: bytes16 base ++ bytes16 size ++ policy :: bytes16 watermark)
  | .setRing slot policy watermark => some (0x31 :: slot :: policy :: bytes16 watermark)
  | .releaseRing slot => some [0x32, slot]
  | .fetch slot max => some [0x33, slot, max]
  | .peek slot skip max => some [0x34, slot, skip, max]
  | .flushRing slot => some [0x35, slot]
  | .ringInfo slot => some [0x36, slot]
  | .nodeRead tag slot item => some [0x40, tag, slot, item]
  | .nodeWrite tag slot item values => some (0x41 :: tag :: slot :: item :: values)
  | .nodeDescribe tag slot => some [0x42, tag, slot]
  | .nodeRelease tag slot => some [0x43, tag, slot]
  | .nodeTest tag slot pattern => some [0x44, tag, slot, pattern]
  | .takeResults max => some [0x45, max]
  | .cancel tag => some [0x46, tag]
  | .faultSummary => some [0x50]
  | .faultRecord kind => some [0x51, kind]
  | .faultAck kind => some [0x52, kind]
  | .clearFault kind => some [0x53, kind]
  | .setReaction kind reaction => some [0x54, kind, reaction]
  | .setAckWindow window => some (0x55 :: bytes16 window)
  | .injectFault kind slot detail => some [0x56, kind, slot, detail]
  | .powerOn => none
  | .resetPinLow => none
  | .resetPinHigh => none
  | .requestedRestart => none
  | .startDelayEnd => none
  | .requestFrame _ => none
  | .framingError _ => none
  | .frameDiscardedByLen _ => none
  | .timeoutError _ => none
  | .overrunFrame _ => none
  | .replyEnd => none
  | .writePhaseEnd => none
  | .markPhaseEnd => none
  | .readbackEnd _ => none
  | .alertDeadlineExpiry _ => none
  | .commandSent _ => none
  | .answerWindowExpiry => none
  | .answerReceived _ => none
  | .twentyFirstCharacter => none
  | .collision => none
  | .spaceEnd => none
  | .keep => none
  | .haltRepeat => none
  | .lineStuck => none
  | .stuckEpisodeEnd => none
  | .cycleTimerExpiry => none
  | .contestEnd _ _ => none
  | .answerStart => none
  | .broadcastFrameEnd _ => none
  | .powerLoss => none
  | .nodeIdleDrop _ => none
  | .nodeRestart _ _ _ _ _ _ => none

end Sys2Proof
end

