-- ==== Sys2Proof/Machine/State.lean ====
section
/-! DEFINITION. The state of the part, block by block, as plain data, and the state after reset. -/

namespace Sys2Proof.Machine

/-- The block never faults: every command has an effect that the manual gives, or none. There is no
constructor, and no meaning answers a fault. -/
inductive Fault : Type where
  deriving DecidableEq, Repr

/-- Why a step gives no next state. -/
inductive Refusal where
  /-- Raised by an arm of exec whose command has no meaning yet; no arm is left so. Safe: nothing is claimed. -/
  | notModelled (mnemonic : String)
  deriving DecidableEq, Repr

/-- The start controller (10.4). -/
structure StartState where
  phase : StartPhase
  /-- RESET# is low. -/
  pinLow : Bool
  /-- R178, as the bit-set of R181: bit 0 POWER, bit 1 PIN, bit 2 REQUEST. -/
  causes : BitVec 3
  /-- R179: the timestamp clock. -/
  clock : Timestamp
  deriving DecidableEq, Repr

/-- The settings store (10.1 to 10.3). -/
structure SettingsState where
  image : SettingsImage
  store : StoreState
  lastResult : StoreResult
  defaulted : Bool
  /-- R175: the working site label. -/
  label : Vector Byte 16
  deriving DecidableEq, Repr

/-- The host link unit (09). -/
structure LinkState where
  /-- bit/s -/
  rate : Nat
  rx : Receiver
  /-- R162: the body of the reply that is owed. -/
  reply : Option (List Byte)
  /-- R158: the rate that takes effect at the end of the reply. -/
  rateChange : Option Nat
  /-- R177: a RESTART was accepted; the start begins at the end of the reply. -/
  restartDue : Bool
  framing : BitVec 16
  timeout : BitVec 16
  check : BitVec 16
  overrun : Bool
  /-- R167, bits as R181 gives them. -/
  enables : BitVec 5
  surveyDone : Bool
  faultLatch : Bool
  /-- R50: the clearing of SURVEY_DONE by the SURVEY_RESULT being answered may still be to come. -/
  clearMayFollow : Bool
  deriving DecidableEq, Repr

/-- The directory (01). -/
structure DirectoryState where
  entries : Table 32 Entry
  /-- R18: the working binding list; the identity bound to each slot. -/
  bindings : Table 32 (Option Identity)
  /-- R21: the change set. -/
  changes : Table 32 Bool
  deriving DecidableEq, Repr

/-- The survey unit (03). -/
structure SurveyUnit where
  record : SurveyRecord
  round : Option Round
  failures : Nat
  /-- R63: a hold, stop or line reset has told the survey to stop; it stops at the next frame boundary. -/
  stopping : Bool
  deriving DecidableEq, Repr

/-- The line engine with its transceiver and arbiter (02, 07, R78). -/
structure LineEngine where
  state : LineState
  /-- The transaction, broadcast or contest on the line; none while the transceiver is released. -/
  txn : Option Transaction
  /-- R128: oldest first. -/
  owed : List OwedSend
  /-- R36: the keep-alive silence timer runs. -/
  silence : Bool
  /-- R37: the HALT repeat timer runs. -/
  haltTimer : Bool
  /-- R46: a KEEP that fell due while the line was held dominant waits. -/
  keepWaiting : Bool
  /-- R37, R46: a HALT repeat that fell due while the line was held dominant, or in a SPACE, waits. -/
  haltWaiting : Bool
  /-- R46: a stuck episode is in progress. -/
  stuck : Bool
  /-- R46: the line reads dominant while the transceiver is released and no stuck episode stands. -/
  dominant : Bool
  /-- kbit/s -/
  rate : Nat
  lastGrant : GrantKind
  deriving DecidableEq, Repr

/-- R72: the running cycle timer. -/
structure CycleTimer where
  length : Nat
  remaining : Nat
  deriving DecidableEq, Repr

/-- The poll scheduler (04). -/
structure Scheduler where
  period : Nat
  missLimit : Nat
  cycle : Option CycleTimer
  due : Table 32 Bool
  lateCycles : BitVec 16
  deriving DecidableEq, Repr

/-- The report store (05): the bytes of report memory, and the ring descriptor of each slot that has one. -/
structure ReportStore where
  memory : List Host.Cell
  rings : Table 32 (Option Ring)
  deriving DecidableEq, Repr

/-- The request pool (06). -/
structure Pool where
  /-- Acceptance order, oldest first. -/
  queued : List PoolRequest
  inFlight : Option PoolRequest
  /-- Completion order, oldest first. -/
  completed : List Completion
  deriving DecidableEq, Repr

/-- The fault unit (08). -/
structure FaultUnit where
  records : Table 10 FaultRecord
  reactions : Table 10 Reaction
  ackWindow : Nat
  /-- A hold has been asked for and the line engine has not taken it yet (R146). -/
  holdAsked : Bool
  deriving DecidableEq, Repr

/-- The whole part, the nodes on its line, and the queue of commands that wait. -/
structure State where
  start : StartState
  settings : SettingsState
  link : LinkState
  dir : DirectoryState
  survey : SurveyUnit
  line : LineEngine
  sched : Scheduler
  store : ReportStore
  pool : Pool
  faults : FaultUnit
  nodes : List Node
  /-- The number of the next free value (log entry 9). -/
  freeIndex : Nat
  /-- The commands that wait, first in, first out. -/
  pending : List Instr
  deriving DecidableEq, Repr

/-- R170: sixteen bytes of 0x20. -/
def defaultLabel : Vector Byte 16 := allCells 16 0x20

/-- The image of a part in which no STORE_SETTINGS has ended: its pattern is invalid (log entry 2). -/
def blankImage : SettingsImage where
  linkRate := 57600
  lineRate := 20
  pollPeriod := 1000
  missLimit := 3
  ackWindow := 500
  reactions := [0x00, 0x01, 0x00, 0x01, 0x02, 0x01, 0x01, 0x01, 0x02, 0x00]
  enables := 0x1F
  bindings := []
  label := List.replicate 16 0x20
  patternValid := false

/-- The part at the end of the full reset of a power-on that found no valid image (log entries 1 and 2). -/
def State.reset : State where
  start := { phase := .running, pinLow := false, causes := 1, clock := 0 }
  settings :=
    { image := blankImage, store := .idle, lastResult := .none, defaulted := true, label := defaultLabel }
  link :=
    { rate := 57600, rx := Receiver.idle, reply := none, rateChange := none, restartDue := false,
      framing := 0, timeout := 0, check := 0, overrun := false, enables := 0x1F,
      surveyDone := false, faultLatch := false, clearMayFollow := false }
  dir :=
    { entries := allCells 32 Entry.blank, bindings := allCells 32 none, changes := allCells 32 false }
  survey := { record := SurveyRecord.blank, round := none, failures := 0, stopping := false }
  line :=
    { state := .off, txn := none, owed := [], silence := false, haltTimer := false, keepWaiting := false,
      haltWaiting := false, stuck := false, dominant := false, rate := 20, lastGrant := .pool }
  sched :=
    { period := 1000, missLimit := 3, cycle := none, due := allCells 32 false, lateCycles := 0 }
  store := { memory := [], rings := allCells 32 none }
  pool := { queued := [], inFlight := none, completed := [] }
  faults :=
    { records := allCells 10 FaultRecord.blank, reactions := defaultReactions, ackWindow := 500,
      holdAsked := false }
  nodes := []
  freeIndex := 0
  pending := []

end Sys2Proof.Machine
end

