-- ==== Sys2Proof/Machine/Operands.lean ====
section
/-! DEFINITION. The bytes of values, records and frames: the codes of R181, the layouts of R182 and R183, the two checks, and which answer fits which command. -/

namespace Sys2Proof.Machine

/-! ## Numbers as bytes -/

/-- The `k` low bytes of a number, most significant first (00_scope 6.5). -/
def bigEndian : Nat → Nat → List Byte
  | 0, _ => []
  | k + 1, v => BitVec.ofNat 8 (v / 256 ^ k) :: bigEndian k v

/-- R181: a yes/no field. -/
def flagByte (b : Bool) : Byte := if b then 0x01 else 0x00

/-- A slot number from 1 to 32; none outside that range. -/
def slotOf (b : Byte) : Option Slot :=
  if h : 1 ≤ b.toNat ∧ b.toNat ≤ 32 then some ⟨b.toNat - 1, by omega⟩ else none

/-- The number of a slot, as a byte. -/
def slotByte (i : Slot) : Byte := BitVec.ofNat 8 (i.val + 1)

/-- R182: an identity is 6 bytes, the maker code, then the serial. -/
def identityBytes (x : Identity) : List Byte := bigEndian 6 x.toNat

/-- An optional field: its value, or zero bytes of its full width (R182). -/
def optionBytes {α : Type} (width : Nat) (f : α → List Byte) : Option α → List Byte
  | some x => f x
  | none => List.replicate width 0

/-! ## Value codes (R181) -/

/-- Status codes. -/
def statusCode : Status → Byte
  | .ok => 0x00
  | .badCheck => 0x01
  | .unknownRequest => 0x02
  | .badLength => 0x03
  | .starting => 0x04
  | .badValue => 0x05
  | .badSlot => 0x06
  | .noNode => 0x07
  | .wrongState => 0x08
  | .busy => 0x09
  | .lineOff => 0x0A
  | .lineHeld => 0x0B
  | .poolFull => 0x0C
  | .duplicateTag => 0x0D
  | .unknownTag => 0x0E
  | .inFlight => 0x10
  | .gateClosed => 0x11
  | .overlap => 0x12
  | .noRing => 0x13
  | .notPending => 0x14
  | .notAcked => 0x15
  | .slotBound => 0x16
  | .alertPending => 0x17
  | .notBound => 0x18

/-- Link rate codes, as bit/s. -/
def linkRateOf (b : Byte) : Option Nat :=
  if b = 0x00 then some 9600
  else if b = 0x01 then some 19200
  else if b = 0x02 then some 57600
  else if b = 0x03 then some 115200
  else if b = 0x04 then some 230400
  else none

/-- Entry states. -/
def entryStateCode : EntryState → Byte
  | .free => 0x00
  | .active => 0x01
  | .paused => 0x02
  | .undescribed => 0x03
  | .lost => 0x04

/-- Gate modes. -/
def gateModeCode : GateMode → Byte
  | .gated => 0x00
  | .latched => 0x01
  | .free => 0x02

/-- A gate mode from its code. -/
def gateModeOf (b : Byte) : Option GateMode :=
  if b = 0x00 then some .gated
  else if b = 0x01 then some .latched
  else if b = 0x02 then some .free
  else none

/-- Gate mode sources. -/
def gateSourceCode : GateSource → Byte
  | .provisional => 0x00
  | .kind => 0x01
  | .host => 0x02

/-- Node kinds. -/
def nodeKindCode : NodeKind → Byte
  | .sensor => 0x01
  | .actuator => 0x02

/-- A node kind from its code. -/
def nodeKindOf (b : Byte) : Option NodeKind :=
  if b = 0x01 then some .sensor
  else if b = 0x02 then some .actuator
  else none

/-- Ring policies. -/
def policyCode : RingPolicy → Byte
  | .keepOld => 0x00
  | .keepNew => 0x01

/-- A ring policy from its code. -/
def policyOf (b : Byte) : Option RingPolicy :=
  if b = 0x00 then some .keepOld
  else if b = 0x01 then some .keepNew
  else none

/-- Patterns. -/
def patternCode : Pattern → Byte
  | .a => 0x00
  | .b => 0x01

/-- A pattern from its code. -/
def patternOf (b : Byte) : Option Pattern :=
  if b = 0x00 then some .a
  else if b = 0x01 then some .b
  else none

/-- R119: the byte a node echoes for a pattern. -/
def patternByte : Pattern → Byte
  | .a => 0x5A
  | .b => 0xA5

/-- Line states. -/
def lineStateCode : LineState → Byte
  | .off => 0x00
  | .running => 0x01
  | .survey => 0x02
  | .held => 0x03

/-- Survey states. -/
def surveyStateCode : SurveyState → Byte
  | .never => 0x00
  | .running => 0x01
  | .complete => 0x02
  | .failed => 0x03
  | .limit => 0x04
  | .aborted => 0x05

/-- Store states. -/
def storeStateCode : StoreState → Byte
  | .idle => 0x00
  | .writing _ _ => 0x01

/-- Last store results. -/
def storeResultCode : StoreResult → Byte
  | .none => 0x00
  | .ok => 0x01
  | .failed => 0x02

/-- Fault kinds. -/
def faultKindCode : FaultKind → Byte
  | .noAnswer => 0x01
  | .nodeLost => 0x02
  | .badCheck => 0x03
  | .collision => 0x04
  | .lineStuck => 0x05
  | .ringOverflow => 0x06
  | .directoryFull => 0x07
  | .identityRepeat => 0x08
  | .nodeAlarm => 0x09
  | .sequenceGap => 0x0A

/-- A fault kind from its code. -/
def faultKindOf (b : Byte) : Option FaultKind := faultKinds.find? fun k => faultKindCode k == b

/-- Reactions. -/
def reactionCode : Reaction → Byte
  | .ignore => 0x00
  | .note => 0x01
  | .alert => 0x02
  | .hold => 0x03

/-- A reaction from its code. -/
def reactionOf (b : Byte) : Option Reaction :=
  if b = 0x00 then some .ignore
  else if b = 0x01 then some .note
  else if b = 0x02 then some .alert
  else if b = 0x03 then some .hold
  else none

/-- Alert states. -/
def alertStateCode : AlertState → Byte
  | .none => 0x00
  | .pending => 0x01
  | .escalated => 0x02

/-- Request kinds. -/
def poolWorkCode : PoolWork → Byte
  | .read _ => 0x01
  | .write _ _ => 0x02
  | .describe => 0x03
  | .release => 0x04
  | .test _ => 0x05

/-- Outcomes. -/
def poolOutcomeCode : PoolOutcome → Byte
  | .done => 0x00
  | .refused => 0x01
  | .noAnswer => 0x02
  | .broken => 0x03
  | .nodeGone => 0x04
  | .nodeLost => 0x05
  | .aborted => 0x06

/-- R183: line command codes. -/
def commandCode : LineCommand → Byte
  | .call => 0x11
  | .seat => 0x13
  | .skip => 0x15
  | .close => 0x17
  | .desc => 0x21
  | .poll => 0x23
  | .get => 0x25
  | .put => 0x27
  | .echo => 0x29
  | .unseat => 0x2B
  | .unseatAll => 0x31
  | .halt => 0x33
  | .go => 0x35
  | .keep => 0x37

/-- The line command of an owed send. -/
def owedLineCommand : OwedCommand → LineCommand
  | .close => .close
  | .halt => .halt
  | .go => .go
  | .unseatAll => .unseatAll

/-- R128, R35: how many frames an owed send has. -/
def owedFrames : OwedCommand → Nat
  | .close => 1
  | .halt => 3
  | .go => 3
  | .unseatAll => 3

/-! ## The two checks -/

/-- R30: one bit of the CRC-8. -/
def crc8Shift (r : Byte) : Byte := if r.msb then (r <<< 1) ^^^ 0x31 else r <<< 1

/-- R30: one byte of the CRC-8, most significant bit first. -/
def crc8Step (r b : Byte) : Byte :=
  crc8Shift (crc8Shift (crc8Shift (crc8Shift (crc8Shift (crc8Shift (crc8Shift (crc8Shift (r ^^^ b))))))))

/-- R30: the CRC-8 of the node line. -/
def crc8 (bytes : List Byte) : Byte := bytes.foldl crc8Step 0xFF

/-- R159: one bit of the CRC-16. -/
def crc16Shift (r : BitVec 16) : BitVec 16 := if r.msb then (r <<< 1) ^^^ 0x1021 else r <<< 1

/-- R159: one byte of the CRC-16, most significant bit first. -/
def crc16Step (r : BitVec 16) (b : Byte) : BitVec 16 :=
  crc16Shift (crc16Shift (crc16Shift (crc16Shift (crc16Shift (crc16Shift (crc16Shift (crc16Shift
    (r ^^^ (b.zeroExtend 16 <<< 8)))))))))

/-- R159: the CRC-16 of the host link. -/
def crc16 (bytes : List Byte) : BitVec 16 := bytes.foldl crc16Step 0xFFFF

/-! ## Frames -/

/-- R159: the characters of a host link frame after its SYNC. -/
def frameTail (body : List Byte) : List Byte :=
  let covered := BitVec.ofNat 8 body.length :: body
  covered ++ bytes16 (crc16 covered)

/-- R159: a whole host link frame; what TXD sends for a reply body. -/
def linkFrame (body : List Byte) : List Byte := 0xD5 :: frameTail body

/-- R28: the address byte of a line frame. -/
def frameAddress (f : LineFrame) : Byte :=
  match f.target with
  | some i => slotByte i
  | none => 0

/-- R28, R183: the characters of a line frame, check byte last. -/
def lineFrameBytes (f : LineFrame) : List Byte :=
  let covered := commandCode f.command :: frameAddress f :: f.data
  covered ++ [crc8 covered]

/-! ## Answers -/

/-- R183: the POLL status byte's has-report bit. -/
def hasReport (status : Byte) : Bool := status.getLsbD 0

/-- R183: the POLL status byte's node-alarm bit. -/
def alarmFlag (status : Byte) : Bool := status.getLsbD 1

/-- R31, R183: whether an answer fits its command. `reportLength` is the report length of the descriptor that
the polled entry holds when the answer ends; every status but ACCEPT (0x00) is a refusal, which carries no data. -/
def answerFits (command : LineCommand) (reportLength : Option Nat) (status : Byte) (data : List Byte) : Bool :=
  match command with
  | .seat => if status = 0x00 then decide (data.length = 1) else data.isEmpty
  | .desc => if status = 0x00 then descriptorFits data else data.isEmpty
  | .poll =>
    if hasReport status then
      match reportLength with
      | some n => decide (data.length = n + 1)
      | none => false
    else decide (data.length = 1)
  | .get => if status = 0x00 then decide (1 ≤ data.length) && decide (data.length ≤ 8) else data.isEmpty
  | .put => data.isEmpty
  | .echo => if status = 0x00 then decide (data.length = 4) else data.isEmpty
  | .unseat => data.isEmpty
  | .call => false
  | .skip => false
  | .close => false
  | .unseatAll => false
  | .halt => false
  | .go => false
  | .keep => false

/-- R32: an answer frame judged at the end of RECEIVE: GOOD with its status and data, or BROKEN where its check
fails or it does not fit. A frame of one character cannot hold a status and a check and does not fit (R29). -/
def judgeAnswer (command : LineCommand) (reportLength : Option Nat) (chars : List Byte) : LineOutcome :=
  match chars.dropLast, chars.getLast? with
  | status :: data, some check =>
    if crc8 (status :: data) = check ∧ answerFits command reportLength status data then .good status data
    else .broken
  | _, _ => .broken

/-- R3, R183: the descriptor that the data of a fitting DESC answer gives. -/
def descriptorOf (data : List Byte) : Option Descriptor :=
  match data with
  | kind :: classCode :: length :: tags =>
    (nodeKindOf kind).map fun k => { kind := k, classCode, reportLength := length.toNat, tags }
  | _ => none

/-! ## Records as bytes (R182) -/

/-- The flags byte of a report record. -/
def recordFlags (r : ReportRecord) : Byte :=
  (if r.gap then 0x01 else 0x00) ||| (if r.nodeAlarm then 0x02 else 0x00) ||| (if r.lossBefore then 0x04 else 0x00)

/-- A report record, as held in a ring. -/
def recordBytes (r : ReportRecord) : List Byte :=
  r.sequence :: bigEndian 4 r.timestamp.toNat ++ recordFlags r :: BitVec.ofNat 8 r.payload.length :: r.payload

/-- A completion record. -/
def completionBytes (c : Completion) : List Byte :=
  c.request.tag :: slotByte c.request.slot :: poolWorkCode c.request.work :: poolOutcomeCode c.outcome ::
    BitVec.ofNat 8 c.request.attempts :: BitVec.ofNat 8 c.data.length :: c.data

/-- An occurrence. -/
def occurrenceBytes (o : Occurrence) : List Byte :=
  o.slot :: bigEndian 4 o.timestamp.toNat ++ [o.detail, flagByte o.injected]

/-- A descriptor, in NODE_INFO's 8 bytes. -/
def descriptorBytes (d : Descriptor) : List Byte :=
  [nodeKindCode d.kind, d.classCode, BitVec.ofNat 8 d.reportLength, BitVec.ofNat 8 d.tags.length] ++
    (d.tags ++ List.replicate 4 0).take 4

end Sys2Proof.Machine
end

