-- ==== Sys2Proof/Machine/Flags.lean ====
section
/-! DEFINITION. The attention sources, their levels, the pins ATTN# and ALERT#, and the other conditions computed from the state. -/

namespace Sys2Proof.Machine

/-- The timestamp now (R179). -/
def State.now (s : State) : Timestamp := s.start.clock

/-- The start has ended: requests are taken and the blocks run (R176). -/
def State.live (s : State) : Bool := decide (s.start.phase = .running)

/-- The directory entry of a slot (R1). -/
def State.entry (s : State) (i : Slot) : Entry := cell s.dir.entries i

/-- The ring that the entry of a slot refers to (R1, R91). -/
def State.ring (s : State) (i : Slot) : Option Ring := cell s.store.rings i

/-- The fault record of a kind (R142). -/
def State.record (s : State) (k : FaultKind) : FaultRecord := cell s.faults.records k.index

/-- The reaction the table holds for a kind (R143). -/
def State.reaction (s : State) (k : FaultKind) : Reaction := cell s.faults.reactions k.index

/-- Whether a slot is in the due set (R72). -/
def State.isDue (s : State) (i : Slot) : Bool := cell s.sched.due i

/-- Whether a slot is in the change set (R21). -/
def State.isChanged (s : State) (i : Slot) : Bool := cell s.dir.changes i

/-- The lowest slot in the due set. -/
def State.lowestDue (s : State) : Option Slot := slots.find? s.isDue

/-- The members of the change set, in ascending order. -/
def State.changeList (s : State) : List Slot := slots.filter s.isChanged

/-- The bindings, in ascending slot order (R18). -/
def State.bindingList (s : State) : List (Slot × Identity) :=
  slots.filterMap fun i => (cell s.dir.bindings i).map fun x => (i, x)

/-- How many records the pool holds, in every state (R109). -/
def Pool.size (p : Pool) : Nat := p.queued.length + p.inFlight.toList.length + p.completed.length

/-- The tags in the pool, in every state (R109). -/
def Pool.tags (p : Pool) : List Byte :=
  p.queued.map (·.tag) ++ p.inFlight.toList.map (·.tag) ++ p.completed.map (·.request.tag)

/-- A kind has an alert: PENDING or ESCALATED. -/
def State.inAlert (s : State) (k : FaultKind) : Bool := decide ((s.record k).alert ≠ .none)

/-- The number of kinds in alert (R168). -/
def State.alertCount (s : State) : Nat := (faultKinds.filter s.inAlert).length

/-- R149: ALERT# is asserted exactly when some kind is PENDING or ESCALATED. -/
def State.alertPin (s : State) : Bool := faultKinds.any s.inAlert

/-- R109: the COMPLETION level. -/
def State.completionLevel (s : State) : Bool := !s.pool.completed.isEmpty

/-- R107: a ring is at or above its non-zero watermark. -/
def ringAtMark (r : Option Ring) : Bool :=
  match r with
  | some r => decide (0 < r.watermark) && decide (r.watermark ≤ r.used)
  | none => false

/-- R107: the WATERMARK level. -/
def State.watermarkLevel (s : State) : Bool := slots.any fun i => ringAtMark (s.ring i)

/-- R21: the DIRECTORY level. -/
def State.directoryLevel (s : State) : Bool := slots.any s.isChanged

/-- R166, R181: the five sources as a bit-set. -/
def State.sources (s : State) : BitVec 5 :=
  (if s.completionLevel then 0x01 else 0) ||| (if s.watermarkLevel then 0x02 else 0) |||
    (if s.link.surveyDone then 0x04 else 0) ||| (if s.link.faultLatch then 0x08 else 0) |||
    (if s.directoryLevel then 0x10 else 0)

/-- R166: ATTN# is asserted exactly when at least one enabled source is set. -/
def State.attentionPin (s : State) : Bool := decide (s.sources &&& s.link.enables ≠ 0)

/-- R148: the clock has reached a deadline, counted round its wrap. -/
def deadlineReached (deadline now : Timestamp) : Bool := decide ((now - deadline).toNat < 2 ^ 31)

/-- R148: the kind is PENDING and its deadline is reached. -/
def State.expired (s : State) (k : FaultKind) : Bool :=
  match (s.record k).alert, (s.record k).deadline with
  | .pending, some d => deadlineReached d s.now
  | _, _ => false

/-- R47: the reply of an accepted SURVEY has not been sent yet, so no survey frame may reach the line. -/
def State.surveyReplyOwed (s : State) : Bool := decide (s.link.reply = some [0x96, 0x00])

/-- R46: the line is dominant from outside any transaction, in a stuck episode or for less than one. -/
def State.wireHeld (s : State) : Bool := s.line.stuck || s.line.dominant

/-- R79, R46: the line allows a frame: none is in progress and the line is not dominant. R79 does not list a dominance
of under 40 bit times outside a transaction, and R46 says only that the frame waits: that it delays the grant itself, so
that the slot stays due and the request QUEUED meanwhile, is the model's choice (log entry 29). -/
def State.lineAllows (s : State) : Bool := s.line.txn.isNone && !s.wireHeld

/-- R78, R79, R114: a poll, a request of the pool, or a further attempt waits for the line. -/
def State.workWaits (s : State) : Bool :=
  s.pool.inFlight.isSome || decide (s.pool.queued ≠ []) || s.lowestDue.isSome

/-- No frame, answer window, answer or contest is on the line; a SPACE may be. -/
def State.quiet (s : State) : Bool :=
  match s.line.txn with
  | none => true
  | some t => decide (t.phase = .space)

end Sys2Proof.Machine
end

