-- ==== Sys2Proof/Machine/Ops.lean ====
section
/-! DEFINITION. The operations every block shares: report memory, the tables of the state, a request and its reply, an occurrence of a fault kind, the attention latches. -/

namespace Sys2Proof.Machine

/-! ## Report memory (R91) -/

/-- Report memory: (offset, byte) pairs, offsets strictly rising, none that holds what an unlisted byte reads as. -/
abbrev Memory := List Host.Cell

/-- What a byte of report memory reads as that no record was written to; the host never sees one (R91, log entry 8). -/
def blankByte : Byte := 0x00

/-- The byte at an offset. -/
def Memory.read : Memory → Nat → Byte
  | [], _ => blankByte
  | (k, b) :: rest, a => if k = a then b else Memory.read rest a

/-- The memory with one byte written. -/
def Memory.write : Memory → Nat → Byte → Memory
  | [], a, v => if v = blankByte then [] else [(a, v)]
  | (k, b) :: rest, a, v =>
    if a < k then (if v = blankByte then (k, b) :: rest else (a, v) :: (k, b) :: rest)
    else if a = k then (if v = blankByte then rest else (a, v) :: rest)
    else (k, b) :: Memory.write rest a v

/-- Every offset listed lies above `a`. -/
def Memory.above (a : Nat) : Memory → Bool
  | [] => true
  | (k, _) :: _ => decide (a < k)

/-- The canonical form. -/
def Memory.wf : Memory → Bool
  | [] => true
  | (k, b) :: rest => decide (b ≠ blankByte) && Memory.above k rest && Memory.wf rest

/-! ## Tables of the state -/

/-- The state with one directory entry replaced. -/
def State.setEntry (s : State) (i : Slot) (e : Entry) : State :=
  { s with dir := { s.dir with entries := putCell s.dir.entries i e } }

/-- The state with one slot's ring descriptor replaced or removed. -/
def State.setRing (s : State) (i : Slot) (r : Option Ring) : State :=
  { s with store := { s.store with rings := putCell s.store.rings i r } }

/-- The state with other report memory. -/
def State.setMemory (s : State) (m : Memory) : State := { s with store := { s.store with memory := m } }

/-- The state with one slot put into the due set or taken out of it. -/
def State.setDue (s : State) (i : Slot) (b : Bool) : State :=
  { s with sched := { s.sched with due := putCell s.sched.due i b } }

/-- R21: the slot joins the change set. -/
def State.addChange (s : State) (i : Slot) : State :=
  { s with dir := { s.dir with changes := putCell s.dir.changes i true } }

/-- The state with one fault record replaced. -/
def State.setRecord (s : State) (k : FaultKind) (r : FaultRecord) : State :=
  { s with faults := { s.faults with records := putCell s.faults.records k.index r } }

/-- The state with other transceiver business. -/
def State.setTxn (s : State) (t : Option Transaction) : State := { s with line := { s.line with txn := t } }

/-! ## Time -/

/-- R157: milliseconds in which RXD is idle: a receiver that waits for it to be high counts their whole bit times (log
entry 38). -/
def LinkState.idles (l : LinkState) (n : Nat) : LinkState :=
  { l with rx := { l.rx with highDue := l.rx.highDue - n * (l.rate / 1000) } }

/-- R72, R179: milliseconds pass: the clock counts them, wrapping after its last value, and so does a running cycle timer;
RXD is idle in them (R157). -/
def State.passTime (s : State) (n : Nat) : State :=
  { s with
    start := { s.start with clock := s.start.clock + BitVec.ofNat 32 n }
    link := s.link.idles n
    sched := { s.sched with cycle := s.sched.cycle.map fun c => { c with remaining := c.remaining - n } } }

/-! ## Requests and replies (R162, R164, R182) -/

/-- The reply becomes owed: the request code with its top bit set, the status, and for OK the results. -/
def State.replied (s : State) (code : Byte) (status : Status) (results : List Byte) : State :=
  { s with
    link :=
      { s.link with
        reply := some ((code ||| 0x80) :: statusCode status :: (if status = .ok then results else [])) } }

/-- A frame whose SYNC is taken while a reply is owed sets the overrun flag (R162). -/
def State.overrunning (s : State) : State := { s with link := { s.link with overrun := true } }

/-- A request arrives in a good frame. Before the start has ended no frame is received (R169); while a reply is
owed the frame is an overrun frame (R162); while the cause set is not empty only the `early` requests go on
to their owner (R164, R165); otherwise the owner block takes it as one event and the reply becomes owed. -/
def request (code : Byte) (early : Bool) (owner : State → State × Status × List Byte) (s : State) : State :=
  if s.live then
    if s.link.reply.isSome then s.overrunning
    else if early = false ∧ s.start.causes ≠ 0 then s.replied code .starting []
    else (owner s).1.replied code (owner s).2.1 (owner s).2.2
  else s

/-- A request that its LEN does not fit is answered BAD_LENGTH before the cause set is looked at (R164). -/
def requestIfFits (fits : Bool) (code : Byte) (owner : State → State × Status × List Byte) (s : State) : State :=
  if fits then request code false owner s else request code true (fun t => (t, .badLength, [])) s

/-- An owner refuses: nothing changes. -/
def refuse (s : State) (status : Status) : State × Status × List Byte := (s, status, [])

/-- An owner accepts. -/
def accept (s : State) (results : List Byte) : State × Status × List Byte := (s, .ok, results)

/-- The slot check (1.5): a slot outside 1 to 32 is refused with BAD_SLOT. -/
def withSlot (slot : Byte) (s : State) (k : Slot → State × Status × List Byte) : State × Status × List Byte :=
  match slotOf slot with
  | none => refuse s .badSlot
  | some i => k i

/-- The slot check, then a FREE entry is refused with NO_NODE. -/
def withNode (slot : Byte) (s : State) (k : Slot → State × Status × List Byte) : State × Status × List Byte :=
  withSlot slot s fun i => if (s.entry i).state = .free then refuse s .noNode else k i

/-- The common checks of the ring requests (5.2): slot, NO_NODE, then an entry with no ring is refused with NO_RING. -/
def withRing (slot : Byte) (s : State) (k : Slot → Ring → State × Status × List Byte) : State × Status × List Byte :=
  withNode slot s fun i =>
    match s.ring i with
    | none => refuse s .noRing
    | some r => k i r

/-- The kind check (R140): a code outside the ten is refused with BAD_VALUE. -/
def withKind (kind : Byte) (s : State) (k : FaultKind → State × Status × List Byte) : State × Status × List Byte :=
  match faultKindOf kind with
  | none => refuse s .badValue
  | some f => k f

/-! ## Occurrences and reactions (R141 to R146) -/

/-- R142: the record of a kind once it has taken an occurrence. -/
def recordTaking (r : FaultRecord) (o : Occurrence) : FaultRecord :=
  { r with count := satAdd r.count 1, first := some (r.first.getD o), latest := some o }

/-- R145: the record of a kind under ALERT: a kind in NONE becomes PENDING with a deadline. -/
def recordAlerted (r : FaultRecord) (deadline : Timestamp) : FaultRecord :=
  match r.alert with
  | .none => { r with alert := .pending, deadline := some deadline }
  | .pending => r
  | .escalated => r

/-- R144: the FAULT latch is set. -/
def State.latchFault (s : State) : State := { s with link := { s.link with faultLatch := true } }

/-- R146, R148: the fault unit asks the line engine for a hold. -/
def State.askHold (s : State) : State := { s with faults := { s.faults with holdAsked := true } }

/-- The acknowledgement window as a span of the timestamp clock (R147). -/
def State.ackSpan (s : State) : Timestamp := BitVec.ofNat 32 s.faults.ackWindow

/-- R141 to R146: the fault unit takes one occurrence of a kind: it records it and applies the kind's reaction.
A hold is only asked for here; it is taken once the detector has applied its whole event (R146). -/
def occur (k : FaultKind) (slot detail : Byte) (injected : Bool) (s : State) : State :=
  let o : Occurrence := { slot, timestamp := s.now, detail, injected }
  let r := recordTaking (s.record k) o
  match s.reaction k with
  | .ignore => s.setRecord k r
  | .note => (s.setRecord k r).latchFault
  | .alert => (s.setRecord k (recordAlerted r (s.now + s.ackSpan))).latchFault
  | .hold => (s.setRecord k r).latchFault.askHold

/-- An occurrence raised by a detector. -/
def raise (k : FaultKind) (slot detail : Byte) (s : State) : State := occur k slot detail false s

/-! ## Attention latches -/

/-- R62, R64: every survey ending sets the SURVEY_DONE latch. Where SURVEY_RESULT's clearing may still follow its
reply, the order of the two is open and a free value decides it (R50, log entry 10). -/
def State.latchSurveyDone (s : State) : State :=
  if s.link.clearMayFollow then
    { s with
      link := { s.link with surveyDone := Config.latchOutlivesClear s.freeIndex }
      freeIndex := s.freeIndex + 1 }
  else { s with link := { s.link with surveyDone := true } }

end Sys2Proof.Machine
end

