-- ==== Sys2Proof/Machine/Wire.lean ====
section
/-! DEFINITION. A character's bits (R27, R157), the levels of RXD and TXD (R157), the levels of the line (R25), what the part drives, and the wired contest (R41 to R43). -/

namespace Sys2Proof.Machine

/-! ## Levels (R25) -/

/-- R25: the wired result of all parties: dominant if any party pulls low, recessive otherwise. -/
def wired (parties : List Level) : Level := if .dominant ∈ parties then .dominant else .recessive

/-! ## Characters (R27, R157) -/

/-- R27, R157: the ten bits of a character: a start bit, which is 0, eight data bits, least significant first, and a stop
bit, which is 1. -/
def charBits (b : Byte) : List Bool := false :: (List.range 8).map b.getLsbD ++ [true]

/-- The byte of eight data bits, least significant first. -/
def byteOfBits : List Bool → Byte
  | [] => 0
  | b :: rest => byteOfBits rest <<< 1 ||| (if b then 1 else 0)

/-- R27, R157: ten bits taken as a character; one whose stop bit reads 0 is no byte. -/
def readBits (bits : List Bool) : Option Byte :=
  if bits.length = 10 ∧ bits.head? = some false ∧ bits.getLast? = some true then
    some (byteOfBits ((bits.drop 1).take 8))
  else none

/-- R27: on LINE a bit is dominant for 0 and recessive for 1. -/
def bitLevel (b : Bool) : Level := if b then .recessive else .dominant

/-- R27: the levels of a character on LINE. -/
def charLevels (b : Byte) : List Level := (charBits b).map bitLevel

/-- R27: ten bit times of LINE taken as a character; a stop bit that reads dominant is a collision. -/
def readChar (levels : List Level) : Option Byte := readBits (levels.map fun l => decide (l = .recessive))

/-! ## RXD and TXD (R157) -/

/-- R157: on RXD and TXD a bit is low for 0 and high for 1. -/
def pinLevel (b : Bool) : PinLevel := if b then .high else .low

/-- R157: the levels of a character on RXD or TXD. -/
def linkCharLevels (b : Byte) : List PinLevel := (charBits b).map pinLevel

/-- R157: ten bit times of RXD taken as a character; a stop bit that reads low is a framing error. -/
def readLinkChar (levels : List PinLevel) : Option Byte := readBits (levels.map fun l => decide (l = .high))

/-- R157: characters back to back, with no idle time between them. -/
def linkLevels (chars : List Byte) : List PinLevel := (chars.map linkCharLevels).flatten

/-- R157: the level of TXD, bit time by bit time from the first start bit of the reply that is owed; high when idle. -/
def State.txdLevel (s : State) (k : Nat) : PinLevel :=
  match s.link.reply with
  | some body => (linkLevels (linkFrame body)).getD k .high
  | none => .high

/-- R157: a bit time of RXD while the receiver waits: one that is high counts, and a low level begins the count afresh. -/
def waitBit (left : Nat) (l : PinLevel) : Nat :=
  match l with
  | .high => left - 1
  | .low => if left = 0 then 0 else 10

/-- R157: bit times of RXD while the receiver waits. -/
def waitOver (left : Nat) (levels : List PinLevel) : Nat := levels.foldl waitBit left

/-- R157: after a character whose stop bit reads low: a low level that lasts longer than one character is waited out, until
RXD has been high for one full character time; after any other the next start bit begins the next character (log
entry 38). -/
def highDueAfter (levels : List PinLevel) : Nat := if longLow levels then waitOver 10 (levels.drop 10) else 0

/-- R157: how many low levels in these levels last longer than one character, each counted at its eleventh bit time; RXD
has been low for `low` bit times before them. -/
def longLows : Nat → List PinLevel → Nat
  | _, [] => 0
  | _, .high :: rest => longLows 0 rest
  | low, .low :: rest => (if low = 10 then 1 else 0) + longLows (low + 1) rest

/-- R157: the low levels longer than one character that come after the low level in which the stop bit of the broken
character lies. -/
def laterLongLows (levels : List PinLevel) : Nat := longLows 0 (levels.drop (10 + lowRun (levels.drop 10)))

/-! ## Frames on LINE (R27) -/

/-- R27: the part sends its own frames with no gaps. -/
def frameLevels (chars : List Byte) : List Level := (chars.map charLevels).flatten

/-! ## What the part drives and reads (R25, R44) -/

/-- R25: what the part drives in a bit time: in SEND the bit of its frame that falls in it, else it releases LINE. -/
def State.partDrives (s : State) (k : Nat) : Level :=
  match s.line.txn with
  | some t => if t.phase = .send then (frameLevels (lineFrameBytes t.frame)).getD k .recessive else .recessive
  | none => .recessive

/-- R25: the level of LINE in a bit time, with what every other party drives. -/
def State.lineLevel (s : State) (k : Nat) (others : List Level) : Level := wired (s.partDrives k :: others)

/-- R44: in this bit time the part sends recessive and reads dominant. -/
def State.collidesAt (s : State) (k : Nat) (others : List Level) : Prop :=
  s.partDrives k = .recessive ∧ s.lineLevel k others = .dominant

/-! ## The contest (R41 to R43) -/

/-- R41: the 56 bits a contender carries: its identity, then its identity check byte. -/
def contestWord (x : Identity) : BitVec 56 :=
  BitVec.ofNat 56 (x.toNat * 256 + (crc8 (identityBytes x)).toNat)

/-- R41: what a contender drives in bit times 1, 2 and 3 of the slot of one of its bits: it releases the separator, and
pulls dominant in the other two where the bit is 1. -/
def contenderDrives (bit : Bool) (bitTime : Nat) : Level :=
  if bit = true ∧ bitTime ≠ 1 then .dominant else .recessive

/-- What the parties beside the part and the contending nodes drive in a bit time. -/
def outsideDrives (pulls : Bool) : Level := if pulls then .dominant else .recessive

/-- R41, R25: the level in a bit time (1 to 3) of the slot of bit `k` of the words still in the contest; the part has
released the line. The first slot carries bit 55. -/
def slotLevel (slots : BitVec 168) (k : Nat) (words : List (BitVec 56)) (bitTime : Nat) : Level :=
  wired (outsideDrives (slots.getLsbD (3 * (55 - k) + (bitTime - 1))) ::
    words.map fun w => contenderDrives (w.getLsbD k) bitTime)

/-- R41, R42: the levels of the last `k` slots, three bit times each. Where bit time 3 reads dominant, the contenders
whose bit is 0 withdraw, and drive no further slot. -/
def slotLevels (slots : BitVec 168) : Nat → List (BitVec 56) → List Level
  | 0, _ => []
  | k + 1, words =>
    let level := slotLevel slots k words
    level 1 :: level 2 :: level 3 ::
      slotLevels slots k (if level 3 = .dominant then words.filter fun w => w.getLsbD k else words)

/-- R42: the nodes that take part in the contest in progress. -/
def contends (n : Node) : Bool := n.inContest && decide (n.state = .contending)

/-- R41: the levels of the 56 slots of the contest in progress. -/
def State.contestSlots (s : State) (slots : BitVec 168) : List Level :=
  slotLevels slots 56 ((s.nodes.filter contends).map fun n => contestWord n.identity)

/-- R41: the levels of a contest's 170 bit times: a lead of two, in which no contender drives, and 56 slots. -/
def State.contestWire (s : State) (lead : BitVec 2) (slots : BitVec 168) : List Level :=
  outsideDrives (lead.getLsbD 0) :: outsideDrives (lead.getLsbD 1) :: s.contestSlots slots

/-- R43: the part reads each slot in its bit time 3: as 1 where that is dominant, the first slot the top bit. -/
def readSlots : Nat → List Level → BitVec 56
  | k + 1, _ :: _ :: third :: rest => (if third = .dominant then (1 : BitVec 56) <<< k else 0) ||| readSlots k rest
  | _, _ => 0

/-- R43: the separator of one of the slots reads dominant. -/
def separatorHit : List Level → Bool
  | separator :: _ :: _ :: rest => decide (separator = .dominant) || separatorHit rest
  | _ => false

/-- R43: the part's reading of the 56 slots, with what pulls the line low beside the contending nodes. -/
def State.contestReading (s : State) (slots : BitVec 168) : BitVec 56 := readSlots 56 (s.contestSlots slots)

/-- R43: the line reads dominant in the lead or in a separator, so the contest is broken. -/
def State.contestHit (s : State) (lead : BitVec 2) (slots : BitVec 168) : Bool :=
  decide (.dominant ∈ (s.contestWire lead slots).take 2) || separatorHit (s.contestSlots slots)

end Sys2Proof.Machine
end

