-- ==== Sys2Proof/Machine/Nodes.lean ====
section
/-! DEFINITION. The nodes on the line, as the protocol expects them to behave: R38 to R42, R81, and the node events. -/

namespace Sys2Proof.Machine

/-- R38, R139: a node in any state other than SEATED keeps its outputs in their safe state, and one that has dropped its
slot keeps them so until it is seated and described again. -/
def outputsSafe (n : Node) : Bool :=
  match n.state with
  | .seated _ => n.dropped
  | _ => true

/-- R38, R42: a node that was in a contest state or SKIPPED is UNSEATED again. -/
def released (s : NodeState) : NodeState :=
  match s with
  | .contending => .unseated
  | .withdrawn => .unseated
  | .skipped => .unseated
  | .unseated => .unseated
  | .seated i => .seated i
  | .halted i => .halted i

/-- R38: the state of a node after a frame it heard whole. UNSEAT changes it only after the answer (R40). -/
def stateAfterFrame (f : LineFrame) (s : NodeState) : NodeState :=
  match f.command with
  | .call =>
    match s with
    | .unseated => .contending
    | .contending => .contending
    | .withdrawn => .contending
    | .skipped => .skipped
    | .seated i => .seated i
    | .halted i => .halted i
  | .seat =>
    match s, f.target with
    | .contending, some i => .seated i
    | other, _ => other
  | .skip =>
    match s with
    | .contending => .skipped
    | other => other
  | .close => released s
  | .halt =>
    match s with
    | .seated i => .halted i
    | other => released other
  | .go =>
    match s with
    | .halted i => .seated i
    | other => other
  | .unseatAll => .unseated
  | .unseat => s
  | .keep => s
  | .desc => s
  | .poll => s
  | .get => s
  | .put => s
  | .echo => s

/-- The slot a node holds: it answers commands addressed to it (R40). -/
def heldSlot (s : NodeState) : Option Slot :=
  match s with
  | .seated i => some i
  | .halted i => some i
  | _ => none

/-- R81: a POLL whose acknowledgement names the report on offer releases that report. -/
def acknowledge (f : LineFrame) (n : Node) : Node :=
  match f.data, n.held with
  | [present, sequence], r :: rest =>
    if present = 0x01 ∧ sequence = r.sequence then { n with held := rest } else n
  | _, _ => n

/-- R40: a node that has sent the last stop bit of its answer to UNSEAT is UNSEATED. -/
def departed (n : Node) : Node := if n.leaving then { n with state := .unseated, leaving := false } else n

/-- The item of a node with a number. -/
def itemOf (number : Byte) (n : Node) : Option NodeItem := n.items.find? fun i => i.number == number

/-- R29, R40: the status with which a SEATED node answers a PUT: ACCEPT, or one of the refusals that R29 names, NO_ITEM
before READ_ONLY before OUT_OF_RANGE, and none of the node's own (the model's choice, log entry 42). -/
def putStatus (number : Byte) (values : List Byte) (n : Node) : Byte :=
  match itemOf number n with
  | none => 0x81
  | some i =>
    if i.writable then if Config.nodeAllowsValue n.number number values then 0x00 else 0x83
    else 0x82

/-- R40: a SEATED node that accepts a PUT writes the item. -/
def writeItem (f : LineFrame) (n : Node) : Node :=
  match n.state, f.data with
  | .seated _, number :: values =>
    if putStatus number values n = 0x00 then
      { n with items := n.items.map fun i => if i.number = number then { i with value := values } else i }
    else n
  | _, _ => n

/-- R40, R81, R139: what a node does on a command addressed to the slot it holds. A node that had dropped its slot is
described again when it has heard the DESC whole (the model's choice, log entry 40). -/
def obey (f : LineFrame) (n : Node) : Node :=
  match f.command with
  | .poll => acknowledge f n
  | .put => writeItem f n
  | .desc => { n with dropped := false }
  | .unseat => { n with leaving := true }
  | _ => n

/-- R38, R42: what a node does on a broadcast, or on a SEAT that may seat it: a node that a CALL makes CONTENDING takes
part in its contest. -/
def follow (f : LineFrame) (n : Node) : Node :=
  let after := stateAfterFrame f n.state
  { n with state := after, inContest := if f.command = .call then decide (after = .contending) else n.inContest }

/-- A node hears a frame whole. Any answer it was sending has ended before. -/
def hearFrame (f : LineFrame) (n : Node) : Node :=
  let m := departed n
  if f.target.isSome ∧ f.target = heldSlot m.state then obey f m else follow f m

/-- R30, R42: a node at which the frame failed its check ignores it, and is in no contest that it opens. -/
def missFrame (f : LineFrame) (n : Node) : Node := if f.command = .call then { n with inContest := false } else n

/-- A frame goes out; the nodes at which its check failed ignore it (R30). -/
def State.nodesHear (s : State) (f : LineFrame) (missed : List Nat) : State :=
  { s with nodes := s.nodes.map fun n => if missed.contains n.number then missFrame f n else hearFrame f n }

/-- R40: the answer on the line has ended, so a node that answered UNSEAT is UNSEATED. -/
def State.nodesLeave (s : State) : State := { s with nodes := s.nodes.map departed }

/-- R42: a contender whose bit is 0 in a slot that reads dominant withdraws; a node that is not in the contest stays as
it was. -/
def contestNode (levels : BitVec 56) (n : Node) : Node :=
  if contends n = true ∧ ~~~(contestWord n.identity) &&& levels ≠ 0 then
    { n with state := .withdrawn, inContest := false }
  else { n with inContest := false }

/-- R42: the contest over all nodes. -/
def State.nodesContend (s : State) (levels : BitVec 56) : State := { s with nodes := s.nodes.map (contestNode levels) }

/-- R81: reports numbered from `first`, wrapping from 255 to 0. R81 lets a node whose room is full discard reports that
it has not yet offered, and the node decides which: that a node of the model discards none, so that those it holds have
consecutive numbers, is the model's choice (log entry 21). -/
def numberReports (first : Byte) : List (List Byte) → List NodeReport
  | [] => []
  | payload :: rest => { sequence := first, payload } :: numberReports (first + 1) rest

/-- R81: the number of the last report made. A node that has made none since its restart takes the number before its first
one (the model's choice, log entry 41). -/
def lastNumber (first : Byte) (payloads : List (List Byte)) : Byte := first - 1 + BitVec.ofNat 8 payloads.length

/-- R29: an answer frame: status, data, check byte. -/
def framedAnswer (status : Byte) (data : List Byte) : List Byte := status :: data ++ [crc8 (status :: data)]

/-- R40, R81: the answer of a conforming node to an addressed command, status to check byte; none where it stays
silent. That a GET of an item that the node has is not refused, and one of an item that it has not is refused with
NO_ITEM, is the model's choice (log entry 42). -/
def conformingAnswer (f : LineFrame) (n : Node) : Option (List Byte) :=
  let framed (status : Byte) (data : List Byte) : Option (List Byte) := some (framedAnswer status data)
  if f.target.isSome ∧ f.target = heldSlot n.state then
    match f.command with
    | .desc => framed 0x00 n.descriptor
    | .poll =>
      let alarm : Byte := if n.alarm then 0x02 else 0x00
      match (acknowledge f n).held with
      | r :: _ => framed (alarm ||| 0x01) (r.sequence :: r.payload)
      | [] => framed alarm [n.lastMade]
    | .get =>
      match f.data with
      | [number] =>
        match itemOf number n with
        | some i => framed 0x00 i.value
        | none => framed 0x81 []
      | _ => none
    | .put =>
      match n.state, f.data with
      | .halted _, _ => framed 0x84 []
      | _, number :: values => framed (putStatus number values n) []
      | _, _ => none
    | .echo =>
      match f.data with
      | [p] => (patternOf p).bind fun q => framed 0x00 (List.replicate 4 (patternByte q))
      | _ => none
    | .unseat => framed 0x00 []
    | .seat =>
      match n.state with
      | .seated _ => framed 0x00 [crc8 (identityBytes n.identity)]
      | _ => none
    | _ => none
  else
    match f.command, n.state with
    | .seat, .contending => framed 0x00 [crc8 (identityBytes n.identity)]
    | _, _ => none

/-- R39, R139: a node whose idle timer runs out enters UNSEATED; one that held a slot has dropped it. -/
def droppedNode (n : Node) : Node :=
  { n with
    state := .unseated
    leaving := false
    inContest := false
    dropped := n.dropped || (heldSlot n.state).isSome }

/-- R39: the node whose idle timer runs out enters UNSEATED from whatever state it is in. -/
def idleDrop (node : Nat) (s : State) : State :=
  { s with nodes := s.nodes.map fun n => if n.number = node then droppedNode n else n }

/-- R38, R70, R81: a node powers up or restarts. A slot dropped before it no longer keeps the outputs safe once it is
SEATED (the model's choice, log entry 40). -/
def restartNode (node : Nat) (identity : Identity) (descriptor : List Byte) (first : Byte)
    (payloads : List (List Byte)) (condition : NodeCondition) (s : State) : State :=
  let fresh : Node :=
    { number := node, identity, state := .unseated, descriptor, held := numberReports first payloads,
      lastMade := lastNumber first payloads, alarm := condition.alarm, items := condition.items,
      inContest := false, leaving := false, dropped := false }
  { s with nodes := s.nodes.filter (fun n => n.number ≠ node) ++ [fresh] }

/-- NODE_IDLE_DROP (R39). -/
def execNodeIdleDrop (node : Nat) (s : State) : Host.Outcome State Fault Refusal := .next (idleDrop node s)

/-- NODE_RESTART (R38). -/
def execNodeRestart (node : Nat) (identity : Identity) (descriptor : List Byte) (first : Byte)
    (payloads : List (List Byte)) (condition : NodeCondition) (s : State) : Host.Outcome State Fault Refusal :=
  .next (restartNode node identity descriptor first payloads condition s)

end Sys2Proof.Machine
end

