-- ==== Sys2Proof/Machine/Rings.lean ====
section
/-! DEFINITION. The report store (05): records in a ring's bytes, the append under each policy, release, and the ring requests. -/

namespace Sys2Proof.Machine

/-! ## Bytes and records of a ring (R96) -/

/-- The store offset of the byte that lies `k` after the ring's oldest byte, counted round the ring. -/
def ringOffset (r : Ring) (k : Nat) : Nat := r.base + (r.oldest + k) % r.size

/-- The byte `k` after the ring's oldest byte. -/
def ringByte (m : Memory) (r : Ring) (k : Nat) : Byte := Memory.read m (ringOffset r k)

/-- Bytes written one after another from position `k`, going on at the ring's first byte after its last. -/
def ringWrite : Memory → Ring → Nat → List Byte → Memory
  | m, _, _, [] => m
  | m, r, k, b :: rest => ringWrite (Memory.write m (ringOffset r k) b) r (k + 1) rest

/-- `n` bytes from position `k`. -/
def ringBytes (m : Memory) (r : Ring) : Nat → Nat → List Byte
  | 0, _ => []
  | n + 1, k => ringByte m r k :: ringBytes m r n (k + 1)

/-- The size of the record that begins at position `k`: 7 bytes plus its payload length (R182). -/
def recordSize (m : Memory) (r : Ring) (k : Nat) : Nat := 7 + (ringByte m r (k + 6)).toNat

/-- The position after `n` records that begin at position `k`. -/
def afterRecords (m : Memory) (r : Ring) : Nat → Nat → Nat
  | 0, k => k
  | n + 1, k => afterRecords m r n (k + recordSize m r k)

/-- `n` whole records from position `k`, each reassembled where it wraps (R102). -/
def readRecords (m : Memory) (r : Ring) : Nat → Nat → List (List Byte)
  | 0, _ => []
  | n + 1, k => ringBytes m r (recordSize m r k) k :: readRecords m r n (k + recordSize m r k)

/-- The ring without its `n` oldest records: the oldest offset moves past them. An empty ring uses no bytes. -/
def dropRecords (m : Memory) (n : Nat) (r : Ring) : Ring :=
  { r with
    oldest := (r.oldest + afterRecords m r n 0) % r.size
    used := if r.count ≤ n then 0 else r.used - afterRecords m r n 0
    count := r.count - n }

/-! ## Appending (R97 to R100) -/

/-- R97: a record is written at the offset that follows the used bytes. It takes loss-before from the pending-loss
mark, which is cleared, or where it is left alone after a discard (`alone`). -/
def storeRecord (i : Slot) (r : Ring) (alone : Bool) (rec : ReportRecord) (s : State) : State :=
  let bytes := recordBytes { rec with lossBefore := r.pendingLoss || alone }
  (s.setMemory (ringWrite s.store.memory r r.used bytes)).setRing i
    (some
      { r with
        used := r.used + bytes.length
        count := r.count + 1
        pendingLoss := false
        stored := satAdd r.stored 1 })

/-- R98: a KEEP_OLD ring refuses a record that does not fit. -/
def refuseRecord (i : Slot) (r : Ring) (s : State) : State :=
  raise .ringOverflow (slotByte i) 1
    (s.setRing i (some { r with refused := satAdd r.refused 1, pendingLoss := true }))

/-- R99: the oldest records are discarded one at a time until `need` bytes are free; the ring left and how many went. -/
def discardFor (m : Memory) (need : Nat) : Nat → Ring → Nat → Ring × Nat
  | 0, r, k => (r, k)
  | fuel + 1, r, k =>
    if need ≤ r.size - r.used ∨ r.count = 0 then (r, k) else discardFor m need fuel (dropRecords m 1 r) (k + 1)

/-- R99: the oldest record takes the loss-before flag. -/
def markOldest (r : Ring) (m : Memory) : Memory :=
  if r.count = 0 then m else Memory.write m (ringOffset r 5) (ringByte m r 5 ||| 0x04)

/-- R99: a KEEP_NEW ring discards its oldest records until the new one fits, marks the loss, and stores it. -/
def replaceRecords (i : Slot) (r : Ring) (rec : ReportRecord) (s : State) : State :=
  let left := discardFor s.store.memory (recordBytes rec).length r.count r 0
  let r' : Ring := { left.1 with discarded := satAdd left.1.discarded left.2 }
  raise .ringOverflow (slotByte i) (BitVec.ofNat 8 left.2)
    (storeRecord i r' (decide (r'.count = 0)) rec (s.setMemory (markOldest r' s.store.memory)))

/-- R97 to R99: the store appends a record to a ring under the ring's policy. -/
def appendTo (i : Slot) (r : Ring) (rec : ReportRecord) (s : State) : State :=
  if (recordBytes rec).length ≤ r.size - r.used then storeRecord i r false rec s
  else
    match r.policy with
    | .keepOld => refuseRecord i r s
    | .keepNew => replaceRecords i r rec s

/-! ## Assigning and releasing (R92 to R95) -/

/-- R95: the ring of a slot is released: its descriptor is removed and its records are gone. -/
def releaseRing (i : Slot) (s : State) : State := s.setRing i none

/-- The number of records a slot's ring holds; 0 with no ring. -/
def ringCount (r : Option Ring) : Nat :=
  match r with
  | some r => r.count
  | none => 0

/-- R91: the sizes a ring may have. -/
def ringSizes : List Nat := [64, 128, 256, 512, 1024, 2048, 4096]

/-- R92: two spans of bytes share one. -/
def spansOverlap (base size base' size' : Nat) : Bool := decide (base < base' + size') && decide (base' < base + size)

/-- R93: the span overlaps a ring assigned to another entry. -/
def State.overlapsOther (s : State) (i : Slot) (base size : Nat) : Bool :=
  slots.any fun j =>
    decide (j ≠ i) &&
      match s.ring j with
      | some r => spansOverlap base size r.base r.size
      | none => false

/-- R91: a ring at assignment. -/
def newRing (base size : Nat) (policy : RingPolicy) (watermark : Nat) : Ring where
  base := base
  size := size
  policy := policy
  watermark := watermark
  oldest := 0
  used := 0
  count := 0
  pendingLoss := false
  stored := 0
  refused := 0
  discarded := 0

/-- ASSIGN_RING at the report store (R93, R94). -/
def ownAssignRing (slot : Byte) (base size : BitVec 16) (policy : Byte) (watermark : BitVec 16) (s : State) :
    State × Status × List Byte :=
  match policyOf policy with
  | none => refuse s .badValue
  | some p =>
    if size.toNat ∈ ringSizes ∧ base.toNat % size.toNat = 0 ∧ base.toNat + size.toNat ≤ 8192 ∧
        watermark.toNat ≤ size.toNat then
      withNode slot s fun i =>
        if s.overlapsOther i base.toNat size.toNat then refuse s .overlap
        else
          accept ((releaseRing i s).setRing i (some (newRing base.toNat size.toNat p watermark.toNat)))
            (bigEndian 2 (ringCount (s.ring i)))
    else refuse s .badValue

/-- SET_RING at the report store (R105). -/
def ownSetRing (slot policy : Byte) (watermark : BitVec 16) (s : State) : State × Status × List Byte :=
  match policyOf policy with
  | none => refuse s .badValue
  | some p =>
    if 4096 < watermark.toNat then refuse s .badValue
    else
      withRing slot s fun i r =>
        if r.size < watermark.toNat then refuse s .badValue
        else accept (s.setRing i (some { r with policy := p, watermark := watermark.toNat })) []

/-- RELEASE_RING at the report store (R95). -/
def ownReleaseRing (slot : Byte) (s : State) : State × Status × List Byte :=
  withRing slot s fun i r => accept (releaseRing i s) (bigEndian 2 r.count)

/-- R102: how many records FETCH takes. -/
def fetchCount (max : Byte) (r : Ring) : Nat := min max.toNat r.count

/-- FETCH at the report store (R102). -/
def ownFetch (slot max : Byte) (s : State) : State × Status × List Byte :=
  if 1 ≤ max.toNat ∧ max.toNat ≤ 10 then
    withRing slot s fun i r =>
      let n := fetchCount max r
      accept (s.setRing i (some (dropRecords s.store.memory n r)))
        (BitVec.ofNat 8 n :: bigEndian 2 (r.count - n) ++ (readRecords s.store.memory r n 0).flatten)
  else refuse s .badValue

/-- R103: how many records PEEK returns. -/
def peekCount (skip max : Byte) (r : Ring) : Nat := min max.toNat (r.count - skip.toNat)

/-- PEEK at the report store (R103). -/
def ownPeek (slot skip max : Byte) (s : State) : State × Status × List Byte :=
  if 1 ≤ max.toNat ∧ max.toNat ≤ 10 then
    withRing slot s fun _ r =>
      let n := peekCount skip max r
      let m := s.store.memory
      accept s
        (BitVec.ofNat 8 n :: bigEndian 2 (r.count - skip.toNat - n) ++
          (readRecords m r n (afterRecords m r (min skip.toNat r.count) 0)).flatten)
  else refuse s .badValue

/-- FLUSH_RING at the report store (R104). -/
def ownFlushRing (slot : Byte) (s : State) : State × Status × List Byte :=
  withRing slot s fun i r =>
    accept (s.setRing i (some { r with used := 0, count := 0, pendingLoss := false })) (bigEndian 2 r.count)

/-- R106, R182: RING_INFO's results. -/
def ringInfoBytes (r : Ring) : List Byte :=
  bigEndian 2 r.base ++ bigEndian 2 r.size ++ policyCode r.policy :: bigEndian 2 r.watermark ++
    bigEndian 2 r.oldest ++ bigEndian 2 r.used ++ bigEndian 2 r.count ++ flagByte r.pendingLoss ::
    bigEndian 2 r.stored.toNat ++ bigEndian 2 r.refused.toNat ++ bigEndian 2 r.discarded.toNat

/-- RING_INFO at the report store (R106). -/
def ownRingInfo (slot : Byte) (s : State) : State × Status × List Byte :=
  withRing slot s fun _ r => accept s (ringInfoBytes r)

/-! ## The requests -/

/-- The ASSIGN_RING request. -/
def takeAssignRing (slot : Byte) (base size : BitVec 16) (policy : Byte) (watermark : BitVec 16) (s : State) : State :=
  request 0x30 false (ownAssignRing slot base size policy watermark) s

/-- The SET_RING request. -/
def takeSetRing (slot policy : Byte) (watermark : BitVec 16) (s : State) : State :=
  request 0x31 false (ownSetRing slot policy watermark) s

/-- The RELEASE_RING request. -/
def takeReleaseRing (slot : Byte) (s : State) : State := request 0x32 false (ownReleaseRing slot) s

/-- The FETCH request. -/
def takeFetch (slot max : Byte) (s : State) : State := request 0x33 false (ownFetch slot max) s

/-- The PEEK request. -/
def takePeek (slot skip max : Byte) (s : State) : State := request 0x34 false (ownPeek slot skip max) s

/-- The FLUSH_RING request. -/
def takeFlushRing (slot : Byte) (s : State) : State := request 0x35 false (ownFlushRing slot) s

/-- The RING_INFO request. -/
def takeRingInfo (slot : Byte) (s : State) : State := request 0x36 false (ownRingInfo slot) s

/-- ASSIGN_RING (R93). -/
def execAssignRing (slot : Byte) (base size : BitVec 16) (policy : Byte) (watermark : BitVec 16) (s : State) :
    Host.Outcome State Fault Refusal :=
  .next (takeAssignRing slot base size policy watermark s)

/-- SET_RING (R105). -/
def execSetRing (slot policy : Byte) (watermark : BitVec 16) (s : State) : Host.Outcome State Fault Refusal :=
  .next (takeSetRing slot policy watermark s)

/-- RELEASE_RING (R95). -/
def execReleaseRing (slot : Byte) (s : State) : Host.Outcome State Fault Refusal := .next (takeReleaseRing slot s)

/-- FETCH (R102). -/
def execFetch (slot max : Byte) (s : State) : Host.Outcome State Fault Refusal := .next (takeFetch slot max s)

/-- PEEK (R103). -/
def execPeek (slot skip max : Byte) (s : State) : Host.Outcome State Fault Refusal := .next (takePeek slot skip max s)

/-- FLUSH_RING (R104). -/
def execFlushRing (slot : Byte) (s : State) : Host.Outcome State Fault Refusal := .next (takeFlushRing slot s)

/-- RING_INFO (R106). -/
def execRingInfo (slot : Byte) (s : State) : Host.Outcome State Fault Refusal := .next (takeRingInfo slot s)

end Sys2Proof.Machine
end

