-- ==== Sys2Proof/Machine/Directory.lean ====
section
/-! DEFINITION. The node directory (01): the claims that the other blocks bring to an entry, and the directory requests. -/

namespace Sys2Proof.Machine

/-! ## Claims on entries -/

/-- R5: a good SEAT answer for a FREE entry seats a new node in it. -/
def seatNew (i : Slot) (identity : Identity) (s : State) : State :=
  (s.setEntry i { Entry.blank with state := .undescribed, identity := some identity, seatedAt := some s.now }).addChange i

/-- R7: the entry after a rejoin. -/
def rejoinedEntry (e : Entry) : Entry :=
  { e with
    state := .undescribed
    descriptor := none
    lastSequence := none
    missCount := 0
    nodeAlarm := false
    gateOpen := false
    rejoins := satAdd e.rejoins 1 }

/-- R7: a rejoin. The entry leaves ACTIVE if it was ACTIVE, so the slot leaves the due set (R9). -/
def rejoin (i : Slot) (s : State) : State :=
  ((s.setEntry i (rejoinedEntry (s.entry i))).setDue i false).addChange i

/-- R6: the default gate mode of a node kind. -/
def kindGateMode (k : NodeKind) : GateMode :=
  match k with
  | .actuator => .gated
  | .sensor => .free

/-- R6, R11: where the gate mode source is PROVISIONAL the kind decides the gate mode, and the gate is closed then
(a gate the host opened before it too, log entry 11); else all three are left as they are. -/
def kindDefault (k : NodeKind) (e : Entry) : Entry :=
  if e.gateSource = .provisional then
    { e with gateMode := kindGateMode k, gateSource := .kind, gateOpen := false }
  else e

/-- R6: the entry after a describe phase that succeeds; it returns to PAUSED after a rejoin of a PAUSED entry. The
entry is UNDESCRIBED from its seating to this claim (R5, R7). -/
def describedEntry (d : Descriptor) (prior : Option EntryState) (e : Entry) : Entry :=
  match e.state with
  | .undescribed =>
    { kindDefault d.kind e with
      descriptor := some d
      state := if prior = some .paused then .paused else .active }
  | .active => e
  | .paused => e
  | .lost => e
  | .free => e

/-- R6: the describe phase of a survey round succeeds. -/
def describeSuccess (i : Slot) (d : Descriptor) (prior : Option EntryState) (s : State) : State :=
  s.setEntry i (describedEntry d prior (s.entry i))

/-- R11: the entry after a NODE_DESCRIBE that completes DONE. -/
def redescribedEntry (d : Descriptor) (e : Entry) : Entry :=
  match e.state with
  | .undescribed => { kindDefault d.kind e with descriptor := some d, state := .active }
  | .active => { e with descriptor := some d }
  | .paused => { e with descriptor := some d }
  | .free => e
  | .lost => e

/-- R11: the claim of a NODE_DESCRIBE that completes DONE. -/
def describeDone (i : Slot) (d : Descriptor) (s : State) : State := s.setEntry i (redescribedEntry d (s.entry i))

/-- R8: the entry after the passage to LOST. -/
def lostEntry (e : Entry) : Entry := { e with state := .lost, missCount := 0, gateOpen := false }

/-- R8, R9: the passage of an ACTIVE entry to LOST. -/
def passToLost (i : Slot) (s : State) : State := ((s.setEntry i (lostEntry (s.entry i))).setDue i false).addChange i

/-- R12: an entry enters FREE: its fields take their FREE values, its ring is released, it leaves the due set. -/
def freeEntry (i : Slot) (s : State) : State := (releaseRing i (s.setEntry i Entry.blank)).setDue i false

/-- R137: at the end of a line reset's UNSEAT_ALL every entry enters FREE, every ring is released, and the change
set is emptied. -/
def clearDirectory (s : State) : State :=
  { s with
    dir := { s.dir with entries := allCells 32 Entry.blank, changes := allCells 32 false }
    store := { s.store with rings := allCells 32 none }
    sched := { s.sched with due := allCells 32 false } }

/-- R17: every entry's gate closed. -/
def closeGates (s : State) : State :=
  { s with dir := { s.dir with entries := mapCells (fun e => { e with gateOpen := false }) s.dir.entries } }

/-- R73: every entry's miss count zeroed. -/
def zeroMisses (s : State) : State :=
  { s with dir := { s.dir with entries := mapCells (fun e => { e with missCount := 0 }) s.dir.entries } }

/-! ## The owner's decision on each request -/

/-- PAUSE (R10). -/
def ownPause (slot : Byte) (s : State) : State × Status × List Byte :=
  withSlot slot s fun i =>
    match (s.entry i).state with
    | .active => accept ((s.setEntry i { s.entry i with state := .paused, missCount := 0 }).setDue i false) []
    | .paused => accept s []
    | .undescribed => refuse s .wrongState
    | .lost => refuse s .wrongState
    | .free => refuse s .noNode

/-- ACTIVATE (R10). -/
def ownActivate (slot : Byte) (s : State) : State × Status × List Byte :=
  withSlot slot s fun i =>
    match (s.entry i).state with
    | .paused => accept (s.setEntry i { s.entry i with state := .active }) []
    | .active => accept s []
    | .undescribed => refuse s .wrongState
    | .lost => refuse s .wrongState
    | .free => refuse s .noNode

/-- FORGET (R13). -/
def ownForget (slot : Byte) (s : State) : State × Status × List Byte :=
  withSlot slot s fun i =>
    if s.line.state = .survey then refuse s .busy
    else
      match (s.entry i).state with
      | .free => refuse s .noNode
      | .active => refuse s .wrongState
      | .paused => refuse s .wrongState
      | .undescribed => refuse s .wrongState
      | .lost => accept (freeEntry i s) []

/-- OPEN_GATE (R15). -/
def ownOpenGate (slot : Byte) (s : State) : State × Status × List Byte :=
  withSlot slot s fun i =>
    if s.line.state = .held then refuse s .lineHeld
    else if (s.entry i).state = .free then refuse s .noNode
    else if (s.entry i).gateMode = .free then accept s []
    else accept (s.setEntry i { s.entry i with gateOpen := true }) []

/-- CLOSE_GATE (R15). -/
def ownCloseGate (slot : Byte) (s : State) : State × Status × List Byte :=
  withNode slot s fun i => accept (s.setEntry i { s.entry i with gateOpen := false }) []

/-- SET_GATE_MODE (R16): the mode is checked before the slot. -/
def ownSetGateMode (slot mode : Byte) (s : State) : State × Status × List Byte :=
  match gateModeOf mode with
  | none => refuse s .badValue
  | some m =>
    withNode slot s fun i =>
      accept (s.setEntry i { s.entry i with gateMode := m, gateSource := .host, gateOpen := false }) []

/-- R19: the other slot, if any, to which an identity is bound. -/
def State.formerSlot (s : State) (i : Slot) (x : Identity) : Option Slot :=
  slots.find? fun j => decide (j ≠ i) && decide (cell s.dir.bindings j = some x)

/-- R19: the binding list with every binding of an identity removed, and that identity bound to a slot. -/
def bindTo (i : Slot) (x : Identity) (s : State) : State :=
  { s with
    dir :=
      { s.dir with
        bindings := putCell (mapCells (fun b => if b = some x then none else b) s.dir.bindings) i (some x) } }

/-- BIND (R19). -/
def ownBind (slot : Byte) (s : State) : State × Status × List Byte :=
  withSlot slot s fun i =>
    if s.line.state = .survey then refuse s .busy
    else
      match (s.entry i).state, (s.entry i).identity with
      | .free, _ => refuse s .noNode
      | _, none => refuse s .noNode
      | _, some x =>
        if (cell s.dir.bindings i).any (fun y => decide (y ≠ x)) then refuse s .slotBound
        else
          accept (bindTo i x s)
            [match s.formerSlot i x with
              | some j => slotByte j
              | none => 0]

/-- UNBIND (R20). -/
def ownUnbind (slot : Byte) (s : State) : State × Status × List Byte :=
  withSlot slot s fun i =>
    match cell s.dir.bindings i with
    | some _ => accept { s with dir := { s.dir with bindings := putCell s.dir.bindings i none } } []
    | none => refuse s .notBound

/-- LIST_BINDINGS (R20). -/
def ownListBindings (s : State) : State × Status × List Byte :=
  accept s
    (BitVec.ofNat 8 s.bindingList.length ::
      (s.bindingList.map fun b => slotByte b.1 :: identityBytes b.2).flatten)

/-- DIR_CHANGES (R21). -/
def ownDirChanges (s : State) : State × Status × List Byte :=
  accept { s with dir := { s.dir with changes := allCells 32 false } }
    (BitVec.ofNat 8 s.changeList.length :: s.changeList.map slotByte)

/-- R22: the non-FREE entries at or above a slot, in ascending slot order. -/
def State.nodesFrom (s : State) (first : Slot) : List Slot :=
  slots.filter fun i => decide (first ≤ i) && decide ((s.entry i).state ≠ .free)

/-- R22: one item of LIST_NODES. -/
def nodeItem (s : State) (i : Slot) : List Byte :=
  slotByte i :: entryStateCode (s.entry i).state :: optionBytes 6 identityBytes (s.entry i).identity

/-- LIST_NODES (R22). -/
def ownListNodes (first : Byte) (s : State) : State × Status × List Byte :=
  withSlot first s fun i =>
    let all := s.nodesFrom i
    let shown := all.take 24
    accept s (BitVec.ofNat 8 shown.length :: flagByte (decide (24 < all.length)) :: (shown.map (nodeItem s)).flatten)

/-- R182: NODE_INFO's presence byte. -/
def nodePresence (e : Entry) (ring : Bool) (bound : Option Identity) : Byte :=
  (if e.identity.isSome then 0x01 else 0x00) ||| (if e.descriptor.isSome then 0x02 else 0x00) |||
    (if ring then 0x04 else 0x00) ||| (if e.lastSequence.isSome then 0x08 else 0x00) |||
    (if e.seatedAt.isSome then 0x10 else 0x00) ||| (if bound.isSome then 0x20 else 0x00)

/-- R23, R182: NODE_INFO's 40 bytes. -/
def nodeInfoBytes (e : Entry) (ring : Bool) (bound : Option Identity) : List Byte :=
  entryStateCode e.state :: nodePresence e ring bound :: optionBytes 6 identityBytes e.identity ++
    optionBytes 8 descriptorBytes e.descriptor ++
    [gateModeCode e.gateMode, gateSourceCode e.gateSource, flagByte e.gateOpen, BitVec.ofNat 8 e.missCount] ++
    optionBytes 1 (fun q => [q]) e.lastSequence ++ flagByte e.nodeAlarm :: bigEndian 2 e.reportsTaken.toNat ++
    [e.duplicates, e.gaps] ++ bigEndian 2 e.unrouted.toNat ++
    optionBytes 4 (fun t : Timestamp => bigEndian 4 t.toNat) e.seatedAt ++ e.rejoins ::
    optionBytes 6 identityBytes bound ++ [flagByte (bound.isSome && decide (bound = e.identity))]

/-- NODE_INFO (R23). -/
def ownNodeInfo (slot : Byte) (s : State) : State × Status × List Byte :=
  withSlot slot s fun i => accept s (nodeInfoBytes (s.entry i) (s.ring i).isSome (cell s.dir.bindings i))

/-! ## The requests -/

/-- The LIST_NODES request. -/
def takeListNodes (first : Byte) (s : State) : State := request 0x20 false (ownListNodes first) s

/-- The NODE_INFO request. -/
def takeNodeInfo (slot : Byte) (s : State) : State := request 0x21 false (ownNodeInfo slot) s

/-- The DIR_CHANGES request. -/
def takeDirChanges (s : State) : State := request 0x22 false ownDirChanges s

/-- The PAUSE request. -/
def takePause (slot : Byte) (s : State) : State := request 0x23 false (ownPause slot) s

/-- The ACTIVATE request. -/
def takeActivate (slot : Byte) (s : State) : State := request 0x24 false (ownActivate slot) s

/-- The FORGET request. -/
def takeForget (slot : Byte) (s : State) : State := request 0x25 false (ownForget slot) s

/-- The OPEN_GATE request. -/
def takeOpenGate (slot : Byte) (s : State) : State := request 0x26 false (ownOpenGate slot) s

/-- The CLOSE_GATE request. -/
def takeCloseGate (slot : Byte) (s : State) : State := request 0x27 false (ownCloseGate slot) s

/-- The SET_GATE_MODE request. -/
def takeSetGateMode (slot mode : Byte) (s : State) : State := request 0x28 false (ownSetGateMode slot mode) s

/-- The BIND request. -/
def takeBind (slot : Byte) (s : State) : State := request 0x29 false (ownBind slot) s

/-- The UNBIND request. -/
def takeUnbind (slot : Byte) (s : State) : State := request 0x2A false (ownUnbind slot) s

/-- The LIST_BINDINGS request. -/
def takeListBindings (s : State) : State := request 0x2B false ownListBindings s

/-- LIST_NODES (R22). -/
def execListNodes (first : Byte) (s : State) : Host.Outcome State Fault Refusal := .next (takeListNodes first s)

/-- NODE_INFO (R23). -/
def execNodeInfo (slot : Byte) (s : State) : Host.Outcome State Fault Refusal := .next (takeNodeInfo slot s)

/-- DIR_CHANGES (R21). -/
def execDirChanges (s : State) : Host.Outcome State Fault Refusal := .next (takeDirChanges s)

/-- PAUSE (R10). -/
def execPause (slot : Byte) (s : State) : Host.Outcome State Fault Refusal := .next (takePause slot s)

/-- ACTIVATE (R10). -/
def execActivate (slot : Byte) (s : State) : Host.Outcome State Fault Refusal := .next (takeActivate slot s)

/-- FORGET (R13). -/
def execForget (slot : Byte) (s : State) : Host.Outcome State Fault Refusal := .next (takeForget slot s)

/-- OPEN_GATE (R15). -/
def execOpenGate (slot : Byte) (s : State) : Host.Outcome State Fault Refusal := .next (takeOpenGate slot s)

/-- CLOSE_GATE (R15). -/
def execCloseGate (slot : Byte) (s : State) : Host.Outcome State Fault Refusal := .next (takeCloseGate slot s)

/-- SET_GATE_MODE (R16). -/
def execSetGateMode (slot mode : Byte) (s : State) : Host.Outcome State Fault Refusal :=
  .next (takeSetGateMode slot mode s)

/-- BIND (R19). -/
def execBind (slot : Byte) (s : State) : Host.Outcome State Fault Refusal := .next (takeBind slot s)

/-- UNBIND (R20). -/
def execUnbind (slot : Byte) (s : State) : Host.Outcome State Fault Refusal := .next (takeUnbind slot s)

/-- LIST_BINDINGS (R20). -/
def execListBindings (s : State) : Host.Outcome State Fault Refusal := .next (takeListBindings s)

end Sys2Proof.Machine
end

