-- ==== Sys2Proof/Machine/Intake.lean ====
section
/-! DEFINITION. The report intake (04, R82 to R89): what a poll's outcome does to the polled entry and its ring. -/

namespace Sys2Proof.Machine

/-- R85: the number of reports missed between the last sequence and a taken report's. -/
def reportsMissed (last sequence : Byte) : Byte := sequence - last - 1

/-- R85: a taken report's sequence is not the one after the last sequence, which was present. -/
def gapSeen (last : Option Byte) (sequence : Byte) : Bool :=
  match last with
  | some q => decide (reportsMissed q sequence ≠ 0)
  | none => false

/-- R83: the entry after any good answer: no misses, and the alarm as the answer shows it. -/
def answeredEntry (alarm : Bool) (e : Entry) : Entry := { e with missCount := 0, nodeAlarm := alarm }

/-- R85: the entry after a taken report. -/
def takenEntry (sequence : Byte) (e : Entry) : Entry :=
  { e with
    reportsTaken := satAdd e.reportsTaken 1
    gaps := if gapSeen e.lastSequence sequence then satAdd e.gaps 1 else e.gaps
    lastSequence := some sequence }

/-- R86: a record goes to the entry's ring, or with no ring it is counted as unrouted and dropped. -/
def routeRecord (i : Slot) (rec : ReportRecord) (s : State) : State :=
  match s.ring i with
  | some r => appendTo i r rec s
  | none => s.setEntry i { s.entry i with unrouted := satAdd (s.entry i).unrouted 1 }

/-- R85, R86: a report is taken: counted, checked for a gap, built into a record, and routed. -/
def takeReport (i : Slot) (sequence : Byte) (alarm : Bool) (payload : List Byte) (s : State) : State :=
  let last := (s.entry i).lastSequence
  let gap := gapSeen last sequence
  let counted := s.setEntry i (takenEntry sequence (s.entry i))
  let raised :=
    if gap then raise .sequenceGap (slotByte i) (reportsMissed (last.getD 0) sequence) counted else counted
  routeRecord i
    { sequence, timestamp := s.now, gap, nodeAlarm := alarm, lossBefore := false, payload } raised

/-- R83: the node alarm rises. -/
def raiseAlarm (i : Slot) (sequence : Byte) (alarm : Bool) (s : State) : State :=
  if alarm ∧ (s.entry i).nodeAlarm = false then raise .nodeAlarm (slotByte i) sequence s else s

/-- R83 to R86: a good answer. -/
def goodAnswer (i : Slot) (status sequence : Byte) (payload : List Byte) (s : State) : State :=
  let alarm := alarmFlag status
  let raised := raiseAlarm i sequence alarm s
  let answered := raised.setEntry i (answeredEntry alarm (raised.entry i))
  if hasReport status then
    if (s.entry i).lastSequence = some sequence then
      answered.setEntry i { answered.entry i with duplicates := satAdd (answered.entry i).duplicates 1 }
    else takeReport i sequence alarm payload answered
  else answered

/-- R87: a miss of an ACTIVE entry. -/
def countMiss (i : Slot) (s : State) : State :=
  let limit := BitVec.ofNat 8 s.sched.missLimit
  if (s.entry i).missCount + 1 < s.sched.missLimit then
    raise .noAnswer (slotByte i) (BitVec.ofNat 8 ((s.entry i).missCount + 1))
      (s.setEntry i { s.entry i with missCount := (s.entry i).missCount + 1 })
  else raise .nodeLost (slotByte i) limit (passToLost i (raise .noAnswer (slotByte i) limit s))

/-- R82: the report intake takes a poll's outcome for the polled entry as it stands when the poll ends. An ABORTED
poll brings nothing (R88) and does not come here. -/
def takePollOutcome (i : Slot) (o : LineOutcome) (s : State) : State :=
  match (s.entry i).state, o with
  | .active, .good status (sequence :: payload) => goodAnswer i status sequence payload s
  | .paused, .good status (sequence :: payload) => goodAnswer i status sequence payload s
  | .active, .silent => countMiss i s
  | .active, .broken => countMiss i s
  | .paused, .silent => raise .noAnswer (slotByte i) 0 s
  | .paused, .broken => raise .noAnswer (slotByte i) 0 s
  | _, _ => s

end Sys2Proof.Machine
end

