-- ==== Sys2Proof/Machine/Pool.lean ====
section
/-! DEFINITION. The request pool (06): records, attempts and their outcomes, completion, aborts. -/

namespace Sys2Proof.Machine

/-- The state with another pool. -/
def State.setPool (s : State) (p : Pool) : State := { s with pool := p }

/-- R110: the command frame of a request. -/
def requestFrameOf (r : PoolRequest) : LineFrame :=
  match r.work with
  | .read item => { command := .get, target := some r.slot, data := [item] }
  | .write item values => { command := .put, target := some r.slot, data := item :: values }
  | .describe => { command := .desc, target := some r.slot, data := [] }
  | .release => { command := .unseat, target := some r.slot, data := [] }
  | .test p => { command := .echo, target := some r.slot, data := [patternCode p] }

/-- R110, R119: the data of a request that completes DONE. -/
def doneData (work : PoolWork) (data : List Byte) : List Byte :=
  match work with
  | .read _ => data
  | .write _ _ => []
  | .describe => data
  | .release => []
  | .test p => flagByte (decide (data = List.replicate 4 (patternByte p))) :: data

/-- R120: the claim that a completion brings to the directory (R117, R118). -/
def completionClaim (r : PoolRequest) (outcome : PoolOutcome) (data : List Byte) (s : State) : State :=
  match outcome, r.work with
  | .done, .describe =>
    match descriptorOf data with
    | some d => describeDone r.slot d s
    | none => s
  | .done, .release => freeEntry r.slot s
  | _, _ => s

/-- R120: a request in flight completes: its record joins the tail of the completion list, and a describe or a
release that is DONE brings its claim to the directory. -/
def completeRequest (r : PoolRequest) (outcome : PoolOutcome) (data : List Byte) (s : State) : State :=
  completionClaim r outcome data
    (s.setPool
      { s.pool with inFlight := none, completed := s.pool.completed ++ [{ request := r, outcome, data }] })

/-- R114: the pool judges the outcome of an attempt; a further attempt follows after SPACE where none is complete. -/
def takePoolOutcome (o : LineOutcome) (s : State) : State :=
  match s.pool.inFlight with
  | none => s
  | some r =>
    match o with
    | .good status data =>
      if status = 0x00 then completeRequest r .done (doneData r.work data) s
      else completeRequest r .refused [status] s
    | .silent => if r.attempts < 3 then s else completeRequest r .noAnswer [] s
    | .broken => if r.attempts < 3 then s else completeRequest r .broken [] s

/-- R124: the request in flight, if one is, completes ABORTED. -/
def abortInFlight (s : State) : State :=
  match s.pool.inFlight with
  | none => s
  | some r => completeRequest r .aborted [] s

/-- R125: every queued request completes ABORTED, in queue order. -/
def abortQueued (s : State) : State :=
  s.setPool
    { s.pool with
      queued := []
      completed := s.pool.completed ++ s.pool.queued.map fun r => { request := r, outcome := .aborted, data := [] } }

end Sys2Proof.Machine
end

