-- ==== Sys2Proof/Machine/Survey.lean ====
section
/-! DEFINITION. Frames that begin, owed sends and cycle starts, and the survey unit (03): rounds, slot choice, seating, describing, endings. -/

namespace Sys2Proof.Machine

/-! ## What the survey unit asks of the line engine and the scheduler -/

/-- A frame begins on the line. Its end restarts the silence timer, so a KEEP or HALT repeat that waited is gone (R46). -/
def beginFrame (f : LineFrame) (user : LineUser) (s : State) : State :=
  { s with
    line :=
      { s.line with
        txn := some { frame := f, user, phase := .send, aborted := none, contestBroken := false, spaceHit := false }
        keepWaiting := false
        haltWaiting := false } }

/-- A broadcast frame (R28). -/
def broadcast (c : LineCommand) : LineFrame := { command := c, target := none, data := [] }

/-- A frame addressed to a slot, with no data. -/
def addressed (c : LineCommand) (i : Slot) : LineFrame := { command := c, target := some i, data := [] }

/-- R128: whether adding a send of a command removes this send from the list: one not begun whose command is HALT,
GO or the same. -/
def supersededBy (c : OwedCommand) (o : OwedSend) : Bool :=
  decide (o.framesBegun = 0) && (decide (o.command = .halt) || decide (o.command = .go) || decide (o.command = c))

/-- R128: an owed send is added. -/
def addOwed (c : OwedCommand) (s : State) : State :=
  { s with
    line :=
      { s.line with
        owed := s.line.owed.filter (fun o => !supersededBy c o) ++ [{ command := c, framesBegun := 0 }] } }

/-- R74, R75: a cycle start: every ACTIVE slot joins the due set, and the cycle timer starts with the working period. -/
def cycleStart (s : State) : State :=
  { s with
    sched :=
      { s.sched with
        due := tabulate 32 fun i => s.isDue i || decide ((s.entry i).state = .active)
        cycle := some { length := s.sched.period, remaining := s.sched.period } } }

/-- The state with another survey unit. -/
def State.setSurvey (s : State) (u : SurveyUnit) : State := { s with survey := u }

/-- The state with another survey result record. -/
def State.setSurveyRecord (s : State) (r : SurveyRecord) : State := s.setSurvey { s.survey with record := r }

/-- The state with another round state. -/
def State.setRound (s : State) (r : Option Round) : State := s.setSurvey { s.survey with round := r }

/-! ## Endings (R61 to R64) -/

/-- R62: a survey ends COMPLETE, FAILED or LIMIT. -/
def finishSurvey (result : SurveyState) (s : State) : State :=
  let recorded :=
    s.setSurvey
      { s.survey with record := { s.survey.record with state := result, finish := some s.now }, round := none }
  let latched := recorded.latchSurveyDone
  addOwed .close
    (cycleStart { latched with line := { latched.line with state := .running, silence := true } })

/-- R60, R61: a round ends; the survey unit decides whether the survey ends. -/
def endRound (e : RoundEnd) (s : State) : State :=
  let failed := decide (e = .failed)
  let ended :=
    s.setSurvey
      { s.survey with
        record :=
          { s.survey.record with
            failedRounds := if failed then s.survey.record.failedRounds + 1 else s.survey.record.failedRounds }
        round := none
        failures := if failed then s.survey.failures + 1 else s.survey.failures }
  if 3 ≤ ended.survey.failures then finishSurvey .failed ended
  else if 64 ≤ ended.survey.record.roundsRun then finishSurvey .limit ended
  else ended

/-- R64: whether a good SEAT has been taken and the describe phase has not ended. -/
def describePending (r : Option Round) : Bool :=
  match r with
  | some r => decide (r.phase = .describe) && r.closing.isNone
  | none => false

/-- R64: the survey stops: it is recorded ABORTED now, a describe phase that was not ended counts as undescribed, and
the round state and the consecutive-failure count are discarded. A describe phase cut short adds its slot to the change
set by the seating claim alone (R5, R7): where DIR_CHANGES has emptied the set since, the slot does not join it again
(the model's choice, log entry 35). -/
def surveyStops (s : State) : State :=
  (s.setSurvey
    { record :=
        { s.survey.record with
          state := .aborted
          finish := some s.now
          undescribed :=
            if describePending s.survey.round then s.survey.record.undescribed + 1
            else s.survey.record.undescribed }
      round := none
      failures := 0
      stopping := false }).latchSurveyDone

/-- R63: a frame of the survey, the answer to it or a contest is on the line. A survey that has begun no round waits for
the line before its first CALL: a survey frame that is there then is the last one of a survey that was stopped. -/
def State.surveyFrameRuns (s : State) : Bool :=
  match s.line.txn with
  | some t =>
    s.survey.round.isSome && decide (t.user = .survey) &&
      (decide (t.phase = .send) || decide (t.phase = .receive) || decide (t.phase = .contest))
  | none => false

/-- R63: a hold, stop or line reset tells a survey that runs to stop: it stops at the next frame boundary, which is the
end of the frame, answer or contest on the line, or now where none is (log entry 15). -/
def stopSurvey (s : State) : State :=
  if s.line.state = .survey then
    if s.surveyFrameRuns then s.setSurvey { s.survey with stopping := true } else surveyStops s
  else s

/-- R63: a frame boundary: a survey that was told to stop stops. -/
def frameBoundary (s : State) : State := if s.survey.stopping then surveyStops s else s

/-! ## The contest reading and the slot choice (R53 to R55) -/

/-- R54 step 1: the slot whose non-FREE entry holds an identity. -/
def State.slotHolding (s : State) (x : Identity) : Option Slot :=
  slots.find? fun i => decide ((s.entry i).state ≠ .free) && decide ((s.entry i).identity = some x)

/-- R54 step 2: the FREE slot that a binding names for an identity. -/
def State.slotBound (s : State) (x : Identity) : Option Slot :=
  slots.find? fun i => decide ((s.entry i).state = .free) && decide (cell s.dir.bindings i = some x)

/-- R54 step 3: the lowest FREE slot that no binding names. -/
def State.slotUnbound (s : State) : Option Slot :=
  slots.find? fun i => decide ((s.entry i).state = .free) && (cell s.dir.bindings i).isNone

/-- R54: the slot choice for a winner. -/
def State.slotChoice (s : State) (x : Identity) : Option Slot :=
  match s.slotHolding x with
  | some i => some i
  | none =>
    match s.slotBound x with
    | some i => some i
    | none => s.slotUnbound

/-- R51: a round as its CALL begins. -/
def freshRound : Round where
  phase := .contest
  reading := none
  chosen := none
  attempts := 0
  prior := none
  closing := none

/-- The round is decided and ends with its last SPACE. -/
def closeRound (e : RoundEnd) (r : Round) (s : State) : State := s.setRound (some { r with closing := some e })

/-- R54, R55: a winner has been found: its slot is chosen, or none is, and the directory is full. -/
def takeWinner (r : Round) (x : Identity) (s : State) : State :=
  match s.slotChoice x with
  | some i => s.setRound (some { r with phase := .seat, chosen := some i, attempts := 0 })
  | none =>
    raise .directoryFull 0 (BitVec.ofNat 8 x.toNat)
      (s.setRound (some { r with phase := .skip, chosen := none, attempts := 0 }))

/-- R43: the identity of a contest reading, from slots 1 to 48. -/
def readingIdentity (levels : BitVec 56) : Identity := BitVec.ofNat 48 (levels.toNat / 256)

/-- R43: the check of a contest reading, from slots 49 to 56. -/
def readingCheck (levels : BitVec 56) : Byte := BitVec.ofNat 8 levels.toNat

/-- R43: what the transceiver hands the survey unit. -/
def readingOf (levels : BitVec 56) (broken : Bool) : Reading :=
  if broken then .broken else .clean (readingIdentity levels) (readingCheck levels)

/-- R51, R53: the survey unit takes a contest reading into the round state and judges it. -/
def judgeReading (r : Round) (reading : Reading) (s : State) : State :=
  let held := { r with reading := some reading }
  match reading with
  | .broken => closeRound .failed held s
  | .clean x check =>
    if x = 0 then if check = 0 then finishSurvey .complete s else closeRound .failed held s
    else if crc8 (identityBytes x) ≠ check then closeRound .failed held s
    else takeWinner held x s

/-! ## Seating and describing (R56 to R59) -/

/-- R56: a SEAT attempt is good: ACCEPT with the check byte of the contest reading. -/
def seatGood (r : Round) (o : LineOutcome) : Bool :=
  match o, r.reading with
  | .good status data, some (.clean _ check) => decide (status = 0x00) && decide (data = [check])
  | _, _ => false

/-- R58: the seating claim for the chosen slot, decided by the entry's state as it stands. -/
def seatClaim (r : Round) (i : Slot) (x : Identity) (s : State) : State :=
  let prior := (s.entry i).state
  let rec' := s.survey.record
  let describing (p : Option EntryState) : Round := { r with phase := .describe, attempts := 0, prior := p }
  if prior = .free then
    (seatNew i x s).setSurvey
      { s.survey with
        record := { rec' with newSeated := rec'.newSeated + 1 }, round := some (describing none), failures := 0 }
  else
    let joined :=
      (rejoin i s).setSurvey
        { s.survey with
          record := { rec' with rejoined := rec'.rejoined + 1 }, round := some (describing (some prior)),
          failures := 0 }
    if prior = .lost then joined else raise .identityRepeat (slotByte i) (entryStateCode prior) joined

/-- R56, R57: the survey unit judges a SEAT attempt; after three that are not good the clearing UNSEAT follows. -/
def takeSeatOutcome (r : Round) (o : LineOutcome) (s : State) : State :=
  if seatGood r o then
    match r.chosen, r.reading with
    | some i, some (.clean x _) => seatClaim r i x s
    | _, _ => s
  else if 3 ≤ r.attempts then s.setRound (some { r with phase := .clear, attempts := 0 })
  else s

/-- R6, R59: the describe phase fails: the entry stays UNDESCRIBED, and its slot is in the change set. -/
def describeFailure (r : Round) (i : Slot) (s : State) : State :=
  (s.setSurvey
    { s.survey with
      record := { s.survey.record with undescribed := s.survey.record.undescribed + 1 }
      round := some { r with closing := some .served } }).addChange i

/-- R59: the descriptor of a good DESC attempt. -/
def describeGood (o : LineOutcome) : Option Descriptor :=
  match o with
  | .good status data => if status = 0x00 then descriptorOf data else none
  | _ => none

/-- R59: the survey unit judges a DESC attempt. -/
def takeDescribeOutcome (r : Round) (o : LineOutcome) (s : State) : State :=
  match r.chosen with
  | none => s
  | some i =>
    match describeGood o with
    | some d => closeRound .served r (describeSuccess i d r.prior s)
    | none => if 3 ≤ r.attempts then describeFailure r i s else s

/-- The survey unit takes the outcome of its SEAT, clearing UNSEAT or DESC. -/
def takeSurveyOutcome (o : LineOutcome) (s : State) : State :=
  match s.survey.round with
  | none => s
  | some r =>
    match r.phase with
    | .seat => takeSeatOutcome r o s
    | .clear => closeRound .failed r s
    | .describe => takeDescribeOutcome r o s
    | .contest => s
    | .skip => s

/-- R52, R55: how a round stands when its CALL or SKIP frame has ended, or has met a collision. -/
def takeBroadcastOutcome (sent : Bool) (s : State) : State :=
  match s.survey.round with
  | none => s
  | some r =>
    match r.phase with
    | .contest => if sent then s else closeRound .failed r s
    | .skip => closeRound .served r s
    | .seat => s
    | .clear => s
    | .describe => s

/-! ## The survey's next frame (R48, R52, R55 to R57, R59) -/

/-- R52: a round begins with CALL, and rounds run rises. -/
def beginRound (s : State) : State :=
  beginFrame (broadcast .call) .survey
    (s.setSurvey
      { s.survey with
        record := { s.survey.record with roundsRun := s.survey.record.roundsRun + 1 }
        round := some freshRound })

/-- R55: as the SKIP frame begins, skipped rises and the consecutive-failure count returns to 0. -/
def beginSkip (s : State) : State :=
  beginFrame (broadcast .skip) .survey
    (s.setSurvey
      { s.survey with
        record := { s.survey.record with skipped := s.survey.record.skipped + 1 }
        failures := 0 })

/-- R56, R59: a SEAT or DESC attempt begins. -/
def beginAttempt (c : LineCommand) (r : Round) (i : Slot) (s : State) : State :=
  beginFrame (addressed c i) .survey (s.setRound (some { r with attempts := r.attempts + 1 }))

/-- The survey's next frame, once the line is free. -/
def beginSurveyFrame (s : State) : State :=
  match s.survey.round with
  | none => beginRound s
  | some r =>
    match r.phase, r.chosen with
    | .seat, some i => beginAttempt .seat r i s
    | .describe, some i => beginAttempt .desc r i s
    | .clear, some i => beginFrame (addressed .unseat i) .survey s
    | .skip, _ => beginSkip s
    | .contest, _ => s
    | .seat, none => s
    | .describe, none => s
    | .clear, none => s

end Sys2Proof.Machine
end

