-- ==== Sys2Proof/Machine/Line.lean ====
section
/-! DEFINITION. The line engine (07, 04.3): the arbiter, the next frame once the line allows one, hold entry, aborts, and the end of an owed send. -/

namespace Sys2Proof.Machine

/-- The state with another line engine. -/
def State.setLine (s : State) (l : LineEngine) : State := { s with line := l }

/-! ## The arbiter (R78 to R80, R113) -/

/-- R80: the two data bytes of a POLL: the acknowledgement, when the last sequence is present. -/
def pollData (e : Entry) : List Byte :=
  match e.lastSequence with
  | some q => [0x01, q]
  | none => [0x00, 0x00]

/-- R77, R78: the line is granted to a poll of a slot, which leaves the due set. -/
def grantPoll (i : Slot) (s : State) : State :=
  let granted := s.setDue i false
  beginFrame { command := .poll, target := some i, data := pollData (s.entry i) } .poll
    (granted.setLine { granted.line with lastGrant := .poll })

/-- R114: an attempt of the request in flight begins, and attempts used rises. -/
def beginPoolAttempt (r : PoolRequest) (s : State) : State :=
  beginFrame (requestFrameOf r) .pool
    (s.setPool { s.pool with inFlight := some { r with attempts := r.attempts + 1 } })

/-- R113: the head of the queue goes in flight; with its entry FREE or LOST it completes at once. -/
def startRequest (r : PoolRequest) (rest : List PoolRequest) (s : State) : State :=
  let granted := s.setLine { s.line with lastGrant := .pool }
  let started := granted.setPool { granted.pool with queued := rest, inFlight := some r }
  match (s.entry r.slot).state with
  | .free => completeRequest r .nodeGone [] started
  | .lost => completeRequest r .nodeLost [] started
  | .active => beginPoolAttempt r started
  | .paused => beginPoolAttempt r started
  | .undescribed => beginPoolAttempt r started

/-- R78: which kind is granted: the kind that is not the last granted one where both wait. -/
def grantChoice (poll : Option Slot) (queue : List PoolRequest) (last : GrantKind) : Option GrantKind :=
  match poll, queue with
  | none, [] => none
  | some _, [] => some .poll
  | none, _ :: _ => some .pool
  | some _, _ :: _ =>
    match last with
    | .pool => some .poll
    | .poll => some .pool

/-- R78, R79: the arbiter decides while the line is free; a request that completes at its start leaves it free, and
the arbiter decides again at once. `fuel` bounds how often: every repetition takes a request off the queue. -/
def arbitrate : Nat → State → State
  | 0, s => s
  | fuel + 1, s =>
    match grantChoice s.lowestDue s.pool.queued s.line.lastGrant, s.lowestDue, s.pool.queued with
    | some .poll, some i, _ => grantPoll i s
    | some .pool, _, r :: rest =>
      let t := startRequest r rest s
      if t.line.txn.isSome then t else arbitrate fuel t
    | _, _, _ => s

/-! ## The next frame (R79, R127, R128) -/

/-- R128: the next frame of the send at the head of the list begins. -/
def beginOwed (o : OwedSend) (rest : List OwedSend) (s : State) : State :=
  beginFrame (broadcast (owedLineCommand o.command)) .owed
    (s.setLine { s.line with owed := { o with framesBegun := o.framesBegun + 1 } :: rest })

/-- R47, R48: the survey's next frame begins, once the reply to its SURVEY has been sent. -/
def beginSurveyWork (s : State) : State := if s.surveyReplyOwed then s else beginSurveyFrame s

/-- R48, R79, R114: what the line takes up once it allows a frame and no send is owed: in HELD a HALT repeat that waited
(R46); in RUNNING and SURVEY a further attempt of the request in flight; then in RUNNING a KEEP that waited (R46), before a
grant of what came to wait after it (the model's choice, log entry 17), and in SURVEY the survey's next frame. -/
def beginWork (s : State) : State :=
  match s.line.state with
  | .off => s
  | .held => if s.line.haltWaiting then beginFrame (broadcast .halt) .haltRepeat s else s
  | .running =>
    match s.pool.inFlight with
    | some r => beginPoolAttempt r s
    | none =>
      if s.line.keepWaiting then beginFrame (broadcast .keep) .keepAlive s
      else arbitrate (s.pool.queued.length + 1) s
  | .survey =>
    match s.pool.inFlight with
    | some r => beginPoolAttempt r s
    | none => beginSurveyWork s

/-- The line engine begins the next frame, if the line allows one: owed sends first (R128). -/
def service (s : State) : State :=
  if s.lineAllows then
    match s.line.owed with
    | o :: rest => beginOwed o rest s
    | [] => beginWork s
  else s

/-! ## Aborts and hold entry (R34, R76, R124, R125, R131) -/

/-- R34: the phase in which the first abort of a transaction is taken stands (log entry 20). -/
def markAborted (t : Transaction) : Transaction := { t with aborted := some (t.aborted.getD t.phase) }

/-- R34: an addressed transaction in SEND, WAIT or RECEIVE is aborted. -/
def abortedTransaction (t : Transaction) : Transaction :=
  match t.phase with
  | .send => if t.frame.target.isSome then markAborted t else t
  | .wait => markAborted t
  | .receive => markAborted t
  | .contest => t
  | .space => t

/-- R34, R124: the transaction on the line is told to end at a frame boundary, and the request in flight completes
ABORTED. -/
def abortTransaction (s : State) : State :=
  abortInFlight (s.setLine { s.line with txn := s.line.txn.map abortedTransaction })

/-- R76: the due set is emptied, and the cycle timer and the silence timer stop. -/
def stopPolling (s : State) : State :=
  { s with
    sched := { s.sched with due := allCells 32 false, cycle := none }
    line := { s.line with silence := false, keepWaiting := false } }

/-- R131: hold entry in OFF, RUNNING or SURVEY; R133: in HELD nothing changes. -/
def holdEntry (s : State) : State :=
  if s.line.state = .held then s
  else
    let ended := abortQueued (abortTransaction (stopSurvey s))
    let quiet := addOwed .halt (stopPolling (closeGates ended))
    quiet.setLine { quiet.line with state := .held, haltTimer := false, haltWaiting := false }

/-- R146: the line engine takes a hold that the event has asked for, after the detector's whole event. -/
def takeHold (s : State) : State :=
  if s.faults.holdAsked then holdEntry { s with faults := { s.faults with holdAsked := false } } else s

/-- The end of every event that touches the line: a hold asked for is taken, then the line begins its next frame. -/
def settle (s : State) : State := service (takeHold s)

/-! ## The end of an owed send (R37, R128, R137) -/

/-- R37: the third HALT of the hold entry has ended with its SPACE; the HALT repeat timer starts while HELD, unless
another HALT is still owed (log entry 27). -/
def startHaltTimer (s : State) : State :=
  if s.line.state = .held ∧ s.line.owed.all (fun o => decide (o.command ≠ .halt)) then
    s.setLine { s.line with haltTimer := true }
  else s

/-- What the end of an owed send brings. -/
def owedDone (c : OwedCommand) (s : State) : State :=
  match c with
  | .close => s
  | .go => s
  | .halt => startHaltTimer s
  | .unseatAll => clearDirectory s

/-- R128, R35: the SPACE of an owed send's frame has ended; with its last frame the send leaves the list. -/
def owedFrameDone (s : State) : State :=
  match s.line.owed with
  | [] => s
  | o :: rest =>
    if owedFrames o.command ≤ o.framesBegun then owedDone o.command (s.setLine { s.line with owed := rest }) else s

/-- R57, R59, R60, R61: the SPACE of a survey frame has ended; a round that is decided ends with it. -/
def surveySpaceDone (s : State) : State :=
  match s.survey.round with
  | none => s
  | some r =>
    match r.closing with
    | some e => endRound e s
    | none => s

/-- R32: the SPACE ends: the transceiver is released, and what waited for it comes about. By then a node that answered
UNSEAT has ended its answer (R40). -/
def spaceDone (t : Transaction) (s : State) : State :=
  let free := s.nodesLeave.setTxn none
  match t.user with
  | .owed => owedFrameDone free
  | .survey => surveySpaceDone free
  | .poll => free
  | .pool => free
  | .keepAlive => free
  | .haltRepeat => free

end Sys2Proof.Machine
end

