-- ==== Sys2Proof/Machine/FaultRequests.lean ====
section
/-! DEFINITION. The fault requests and the expiry of an alert's deadline (08). -/

namespace Sys2Proof.Machine

/-! ## The owner's decision on each request -/

/-- FAULT_SUMMARY (R154): the reply and the clearing of the FAULT latch are one event. -/
def ownFaultSummary (s : State) : State × Status × List Byte :=
  accept { s with link := { s.link with faultLatch := false } }
    ((faultKinds.map fun k => [(s.record k).count, alertStateCode (s.record k).alert]).flatten ++
      [BitVec.ofNat 8 s.alertCount])

/-- R182: FAULT_RECORD's 22 bytes. -/
def faultRecordBytes (reaction : Reaction) (r : FaultRecord) : List Byte :=
  [reactionCode reaction, r.count, alertStateCode r.alert,
      (if r.first.isSome then 0x01 else 0x00) ||| (if r.latest.isSome then 0x02 else 0x00) |||
        (if r.deadline.isSome then 0x04 else 0x00)] ++
    optionBytes 7 occurrenceBytes r.first ++ optionBytes 7 occurrenceBytes r.latest ++
    optionBytes 4 (fun t : Timestamp => bigEndian 4 t.toNat) r.deadline

/-- FAULT_RECORD (R155). -/
def ownFaultRecord (kind : Byte) (s : State) : State × Status × List Byte :=
  withKind kind s fun k => accept s (faultRecordBytes (s.reaction k) (s.record k))

/-- R150: a record whose alert has been acknowledged. -/
def acknowledged (r : FaultRecord) : FaultRecord := { r with alert := .none, deadline := none }

/-- FAULT_ACK (R150): the reply's byte is the late indicator. -/
def ownFaultAck (kind : Byte) (s : State) : State × Status × List Byte :=
  withKind kind s fun k =>
    match (s.record k).alert with
    | .pending => accept (s.setRecord k (acknowledged (s.record k))) [flagByte false]
    | .escalated => accept (s.setRecord k (acknowledged (s.record k))) [flagByte true]
    | .none => refuse s .notPending

/-- CLEAR_FAULT (R152). -/
def ownClearFault (kind : Byte) (s : State) : State × Status × List Byte :=
  withKind kind s fun k =>
    match (s.record k).alert with
    | .none => accept (s.setRecord k { s.record k with count := 0, first := none, latest := none }) []
    | .pending => refuse s .notAcked
    | .escalated => refuse s .notAcked

/-- The state with the reaction of one kind replaced. -/
def State.setReaction (s : State) (k : FaultKind) (r : Reaction) : State :=
  { s with faults := { s.faults with reactions := putCell s.faults.reactions k.index r } }

/-- SET_REACTION (R143). -/
def ownSetReaction (kind reaction : Byte) (s : State) : State × Status × List Byte :=
  withKind kind s fun k =>
    match reactionOf reaction with
    | some r => accept (s.setReaction k r) []
    | none => refuse s .badValue

/-- SET_ACK_WINDOW (R147). -/
def ownSetAckWindow (window : BitVec 16) (s : State) : State × Status × List Byte :=
  if 10 ≤ window.toNat ∧ window.toNat ≤ 2550 ∧ window.toNat % 10 = 0 then
    accept { s with faults := { s.faults with ackWindow := window.toNat } } []
  else refuse s .badValue

/-- INJECT_FAULT (R153). -/
def ownInjectFault (kind slot detail : Byte) (s : State) : State × Status × List Byte :=
  withKind kind s fun k =>
    if 32 < slot.toNat then refuse s .badSlot else accept (settle (occur k slot detail true s)) []

/-! ## Expiry (R148) -/

/-- R148: a PENDING kind whose deadline is reached becomes ESCALATED, and a hold is asked for; otherwise the expiry
does not happen (R151). -/
def deadlineExpires (k : FaultKind) (s : State) : State :=
  if s.expired k then settle (s.setRecord k { s.record k with alert := .escalated, deadline := none }).askHold else s

/-! ## The requests -/

/-- The FAULT_SUMMARY request. -/
def takeFaultSummary (s : State) : State := request 0x50 false ownFaultSummary s

/-- The FAULT_RECORD request. -/
def takeFaultRecord (kind : Byte) (s : State) : State := request 0x51 false (ownFaultRecord kind) s

/-- The FAULT_ACK request. -/
def takeFaultAck (kind : Byte) (s : State) : State := request 0x52 false (ownFaultAck kind) s

/-- The CLEAR_FAULT request. -/
def takeClearFault (kind : Byte) (s : State) : State := request 0x53 false (ownClearFault kind) s

/-- The SET_REACTION request. -/
def takeSetReaction (kind reaction : Byte) (s : State) : State := request 0x54 false (ownSetReaction kind reaction) s

/-- The SET_ACK_WINDOW request. -/
def takeSetAckWindow (window : BitVec 16) (s : State) : State := request 0x55 false (ownSetAckWindow window) s

/-- The INJECT_FAULT request. -/
def takeInjectFault (kind slot detail : Byte) (s : State) : State :=
  request 0x56 false (ownInjectFault kind slot detail) s

/-- FAULT_SUMMARY (R154). -/
def execFaultSummary (s : State) : Host.Outcome State Fault Refusal := .next (takeFaultSummary s)

/-- FAULT_RECORD (R155). -/
def execFaultRecord (kind : Byte) (s : State) : Host.Outcome State Fault Refusal := .next (takeFaultRecord kind s)

/-- FAULT_ACK (R150). -/
def execFaultAck (kind : Byte) (s : State) : Host.Outcome State Fault Refusal := .next (takeFaultAck kind s)

/-- CLEAR_FAULT (R152). -/
def execClearFault (kind : Byte) (s : State) : Host.Outcome State Fault Refusal := .next (takeClearFault kind s)

/-- SET_REACTION (R143). -/
def execSetReaction (kind reaction : Byte) (s : State) : Host.Outcome State Fault Refusal :=
  .next (takeSetReaction kind reaction s)

/-- SET_ACK_WINDOW (R147). -/
def execSetAckWindow (window : BitVec 16) (s : State) : Host.Outcome State Fault Refusal := .next (takeSetAckWindow window s)

/-- INJECT_FAULT (R153). -/
def execInjectFault (kind slot detail : Byte) (s : State) : Host.Outcome State Fault Refusal :=
  .next (takeInjectFault kind slot detail s)

end Sys2Proof.Machine
end

