-- ==== Sys2Proof/Machine/LineEvents.lean ====
section
/-! DEFINITION. The events of the node line: frames, answers, collisions, contests, stuck episodes, and the timers of the line engine. -/

namespace Sys2Proof.Machine

/-- The transaction in a phase, and its next state there; what does not stand in that phase is left (log entry 5). -/
def onPhase (p : LinePhase) (f : Transaction → State → State) (s : State) : State :=
  match s.line.txn with
  | some t => if t.phase = p then f t s else s
  | none => s

/-- The transaction passes to another phase. -/
def toPhase (p : LinePhase) (t : Transaction) (s : State) : State := s.setTxn (some { t with phase := p })

/-- R32: the outcome of an addressed transaction is handed to the block that asked for it; an aborted one has
handed over ABORTED already (R34). -/
def deliver (t : Transaction) (o : LineOutcome) (s : State) : State :=
  if t.aborted.isSome then s
  else
    match t.user, t.frame.target with
    | .poll, some i => takePollOutcome i o s
    | .pool, some _ => takePoolOutcome o s
    | .survey, some _ => takeSurveyOutcome o s
    | _, _ => s

/-- R44, R45: an occurrence of a transceiver kind: the slot addressed, or 0, and the command code. -/
def raiseForFrame (k : FaultKind) (f : LineFrame) (s : State) : State :=
  raise k (frameAddress f) (commandCode f.command) s

/-! ## Frames and answers (R32 to R34) -/

/-- R32: an addressed command frame ends and WAIT begins; the nodes that took it whole act on it (R38, R40, R81). -/
def commandEnds (missed : List Nat) (s : State) : State :=
  onPhase .send
    (fun t u =>
      if t.frame.target.isSome then frameBoundary (toPhase .wait t (u.nodesHear t.frame missed)) else u) s

/-- R32, R41: a broadcast frame ends: a CALL's contest begins, any other's SPACE. -/
def broadcastEnds (missed : List Nat) (s : State) : State :=
  onPhase .send
    (fun t u =>
      if t.frame.target.isSome then u
      else
        let heard := u.nodesHear t.frame missed
        if t.frame.command = .call then heard.setTxn (some { t with phase := .contest, contestBroken := u.line.stuck })
        else
          let spaced := frameBoundary (toPhase .space t heard)
          if t.user = .survey then takeBroadcastOutcome true spaced else spaced) s

/-- R32: a start bit within the answer window. -/
def answerStarts (s : State) : State := onPhase .wait (toPhase .receive) s

/-- R32: the answer window closes with no start bit: outcome NONE. -/
def windowCloses (s : State) : State :=
  onPhase .wait (fun t u => settle (deliver t .silent (toPhase .space t u))) s

/-- The report length of the descriptor that the addressed entry holds (R31). -/
def expectedLength (t : Transaction) (s : State) : Option Nat :=
  match t.frame.target with
  | some i => (s.entry i).descriptor.map (·.reportLength)
  | none => none

/-- R32, R45: an answer frame ends and is judged; an aborted transaction's answer is not read (R34). A node that answered
UNSEAT is UNSEATED now (R40). -/
def answerEnds (chars : List Byte) (s : State) : State :=
  onPhase .receive
    (fun t u =>
      let spaced := frameBoundary (toPhase .space t u.nodesLeave)
      if t.aborted.isSome then settle spaced
      else
        match judgeAnswer t.frame.command (expectedLength t u) chars with
        | .good status data => settle (deliver t (.good status data) spaced)
        | .silent => settle spaced
        | .broken => settle (deliver t .broken (raiseForFrame .badCheck t.frame spaced))) s

/-- R32: an answer reaches its 21st character: BROKEN and BAD_CHECK; the rest of it falls in SPACE. -/
def answerOverruns (s : State) : State :=
  onPhase .receive
    (fun t u =>
      if t.aborted.isSome then u
      else settle (deliver t .broken (raiseForFrame .badCheck t.frame (frameBoundary (toPhase .space t u))))) s

/-- R46: the line goes dominant while the transceiver is released: no fault yet, and no frame begins while it stays so
(log entry 29). -/
def lineHeldLow (s : State) : State := if s.line.stuck then s else s.setLine { s.line with dominant := true }

/-- R34: the abort was taken before any answer had begun, so the part reads nothing of the answer; it runs its course
on the line, and a stop bit in it that reads dominant is no fault. -/
def answerUnread (t : Transaction) : Bool :=
  match t.aborted with
  | some p => decide (p ≠ .receive)
  | none => false

/-- R44: dominant where every conforming party is recessive. In SEND or RECEIVE the transaction ends BROKEN; one that
was aborted in this phase only raises the fault, and nothing is raised in an answer that is not read (R34); in SPACE
the first one of the SPACE is raised, and SPACE restarts. -/
def collide (s : State) : State :=
  match s.line.txn with
  | none => lineHeldLow s
  | some t =>
    match t.phase with
    | .send =>
      let raised := raiseForFrame .collision t.frame (frameBoundary (toPhase .space t s))
      if t.frame.target.isSome then settle (deliver t .broken raised)
      else if t.user = .survey then settle (takeBroadcastOutcome false raised)
      else settle raised
    | .receive =>
      if answerUnread t then s
      else settle (deliver t .broken (raiseForFrame .collision t.frame (frameBoundary (toPhase .space t s))))
    | .space =>
      if t.spaceHit then s
      else settle (raiseForFrame .collision t.frame (s.setTxn (some { t with spaceHit := true })))
    | .wait => s
    | .contest => s

/-- R46: a line that was dominant outside any transaction, and not stuck, is recessive again: a frame may begin. -/
def lineLetGo (s : State) : State :=
  if s.line.dominant then settle (s.setLine { s.line with dominant := false }) else s

/-- R32: SPACE ends, and the line engine takes up what comes next. -/
def spaceEnds (s : State) : State :=
  match s.line.txn with
  | none => lineLetGo s
  | some t => if t.phase = .space then settle (spaceDone t s) else s

/-- R53, R63: the survey unit judges the reading of its round's contest, and that of a stopped survey not. -/
def takeReading (reading : Reading) (s : State) : State :=
  match s.survey.round with
  | some r => if s.survey.stopping ∨ r.phase ≠ .contest then s else judgeReading r reading s
  | none => s

/-- R41 to R43: the contest ends: the part and the nodes read the wired line, with what pulls it low beside the
contending nodes; contenders that read a higher bit have withdrawn, and the reading goes to the survey unit. A contest
whose lead or a separator read dominant is broken. A survey that was told to stop stops at this frame boundary, and the
reading is not judged (R63). -/
def contestEnds (lead : BitVec 2) (slots : BitVec 168) (s : State) : State :=
  onPhase .contest
    (fun t u =>
      let levels := u.contestReading slots
      let contested := toPhase .space t (u.nodesContend levels)
      let bad := u.contestHit lead slots || t.contestBroken
      let raised := if bad then raiseForFrame .badCheck t.frame contested else contested
      settle (frameBoundary (takeReading (readingOf levels bad) raised))) s

/-! ## Timers and stuck episodes (R36, R37, R46, R74) -/

/-- R36, R79: 256 bit times of silence in RUNNING with nothing that waits for the line: a KEEP is sent on a free line;
while the line is held dominant it waits (R46, log entry 29). -/
def keepDue (s : State) : State :=
  if s.line.state = .running ∧ s.line.silence ∧ s.line.owed = [] ∧ s.workWaits = false then
    if s.lineAllows then beginFrame (broadcast .keep) .keepAlive s
    else if s.wireHeld ∧ s.quiet then s.setLine { s.line with keepWaiting := true }
    else s
  else s

/-- R37: 256 bit times without a frame in HELD: one HALT is sent; while the line is held dominant, or a SPACE that
collisions prolong stands, it waits (R46, log entry 29). -/
def haltDue (s : State) : State :=
  if s.line.state = .held ∧ s.line.haltTimer ∧ s.line.owed = [] then
    if s.lineAllows then beginFrame (broadcast .halt) .haltRepeat s
    else if s.quiet then s.setLine { s.line with haltWaiting := true }
    else s
  else s

/-- R46: forty dominant bit times: one occurrence for the episode; a contest in progress is broken. -/
def lineSticks (s : State) : State :=
  if s.line.stuck then s
  else
    settle
      (raise .lineStuck 0 0
        (s.setLine
          { s.line with
            stuck := true
            dominant := false
            txn := s.line.txn.map fun t => if t.phase = .contest then { t with contestBroken := true } else t }))

/-- R46: twelve recessive bit times end the episode, and any SPACE with it (log entry 16); the frame that waits is sent. -/
def stuckEnds (s : State) : State :=
  if s.line.stuck then
    let clear := s.setLine { s.line with stuck := false, dominant := false }
    match clear.line.txn with
    | some t => if t.phase = .space then settle (spaceDone t clear) else clear
    | none => settle clear
  else s

/-! ## The events -/

/-- An event of a part whose start has ended; before that every block stands stopped (R176). -/
def whenLive (f : State → State) (s : State) : State := if s.live then f s else s

/-- COMMAND_SENT (R32). -/
def execCommandSent (missed : List Nat) (s : State) : Host.Outcome State Fault Refusal :=
  .next (whenLive (commandEnds missed) s)

/-- BROADCAST_FRAME_END (R32). -/
def execBroadcastFrameEnd (missed : List Nat) (s : State) : Host.Outcome State Fault Refusal :=
  .next (whenLive (broadcastEnds missed) s)

/-- ANSWER_START (R32). -/
def execAnswerStart (s : State) : Host.Outcome State Fault Refusal := .next (whenLive answerStarts s)

/-- ANSWER_WINDOW_EXPIRY (R32). -/
def execAnswerWindowExpiry (s : State) : Host.Outcome State Fault Refusal := .next (whenLive windowCloses s)

/-- ANSWER_RECEIVED (R32). -/
def execAnswerReceived (chars : List Byte) (s : State) : Host.Outcome State Fault Refusal :=
  .next (whenLive (answerEnds chars) s)

/-- TWENTY_FIRST_CHARACTER (R32). -/
def execTwentyFirstCharacter (s : State) : Host.Outcome State Fault Refusal := .next (whenLive answerOverruns s)

/-- COLLISION (R44). -/
def execCollision (s : State) : Host.Outcome State Fault Refusal := .next (whenLive collide s)

/-- SPACE_END (R32). -/
def execSpaceEnd (s : State) : Host.Outcome State Fault Refusal := .next (whenLive spaceEnds s)

/-- CONTEST_END (R43). -/
def execContestEnd (lead : BitVec 2) (slots : BitVec 168) (s : State) : Host.Outcome State Fault Refusal :=
  .next (whenLive (contestEnds lead slots) s)

/-- KEEP (R36). -/
def execKeep (s : State) : Host.Outcome State Fault Refusal := .next (whenLive keepDue s)

/-- HALT_REPEAT (R37). -/
def execHaltRepeat (s : State) : Host.Outcome State Fault Refusal := .next (whenLive haltDue s)

/-- LINE_STUCK (R46). -/
def execLineStuck (s : State) : Host.Outcome State Fault Refusal := .next (whenLive lineSticks s)

/-- STUCK_EPISODE_END (R46). -/
def execStuckEpisodeEnd (s : State) : Host.Outcome State Fault Refusal := .next (whenLive stuckEnds s)

end Sys2Proof.Machine
end

