-- ==== Sys2Proof/Machine/Settings.lean ====
section
/-! DEFINITION. The settings store (10.1 to 10.3): the image, its judgement, the snapshot, the phases of a write, and the settings requests. -/

namespace Sys2Proof.Machine

/-! ## The image (R170, R171) -/

/-- R157: the five link rates, in bit/s. -/
def linkRates : List Nat := [9600, 19200, 57600, 115200, 230400]

/-- R171: the stored bindings: at most 32, no slot outside 1 to 32, no invalid identity, no slot twice, no identity twice. -/
def bindingsWhole (bs : List StoredBinding) : Bool :=
  decide (bs.length ≤ 32) &&
    bs.all (fun b => decide (1 ≤ b.slot) && decide (b.slot ≤ 32) && decide (b.identity ≠ 0)) &&
    decide (bs.map (·.slot)).Nodup && decide (bs.map (·.identity)).Nodup

/-- R171: every stored value lies within its range. -/
def valuesWhole (im : SettingsImage) : Bool :=
  decide (im.linkRate ∈ linkRates) && decide (im.lineRate ∈ [10, 20, 40]) &&
    decide (10 ≤ im.pollPeriod ∧ im.pollPeriod ≤ 10000) && decide (1 ≤ im.missLimit ∧ im.missLimit ≤ 15) &&
    decide (10 ≤ im.ackWindow ∧ im.ackWindow ≤ 2550 ∧ im.ackWindow % 10 = 0) &&
    decide (im.reactions.length = 10) && im.reactions.all (fun c => (reactionOf c).isSome) &&
    decide (im.enables.toNat < 32) && decide (im.label.length = 16)

/-- R171: the image is whole. -/
def imageWhole (im : SettingsImage) : Bool := im.patternValid && valuesWhole im && bindingsWhole im.bindings

/-- The working values of R170 taken from an image whose values are in range. -/
def loadValues (im : SettingsImage) (s : State) : State :=
  { s with
    link := { s.link with rate := im.linkRate, enables := BitVec.ofNat 5 im.enables.toNat }
    line := { s.line with rate := im.lineRate }
    sched := { s.sched with period := im.pollPeriod, missLimit := im.missLimit }
    faults :=
      { s.faults with
        ackWindow := im.ackWindow
        reactions := tabulate 10 fun k => (reactionOf (im.reactions.getD k.val 0x00)).getD .ignore }
    dir :=
      { s.dir with
        bindings :=
          tabulate 32 fun i => (im.bindings.find? fun b => decide (b.slot = i.val + 1)).map (·.identity) }
    settings := { s.settings with label := tabulate 16 fun k => im.label.getD k.val 0x20 } }

/-- R171: the load: a whole image gives every working value, else every working value takes its default (R170); the
settings-defaulted flag says which. The image itself is left as it is. -/
def loadSettings (s : State) : State :=
  let loaded := loadValues (if imageWhole s.settings.image then s.settings.image else blankImage) s
  { loaded with settings := { loaded.settings with defaulted := !imageWhole s.settings.image } }

/-- R172: the snapshot of every working value of R170. -/
def snapshot (s : State) : SettingsImage where
  linkRate := s.link.rate
  lineRate := s.line.rate
  pollPeriod := s.sched.period
  missLimit := s.sched.missLimit
  ackWindow := s.faults.ackWindow
  reactions := s.faults.reactions.toList.map reactionCode
  enables := BitVec.ofNat 8 s.link.enables.toNat
  bindings := s.bindingList.map fun b => { slot := b.1.val + 1, identity := b.2 }
  label := s.settings.label.toList
  patternValid := true

/-- The state with another settings store. -/
def State.setSettings (s : State) (x : SettingsState) : State := { s with settings := x }

/-! ## The write (R172 to R174) -/

/-- STORE_SETTINGS (R172). -/
def ownStoreSettings (s : State) : State × Status × List Byte :=
  match s.settings.store with
  | .idle =>
    accept
      (s.setSettings
        { s.settings with
          store := .writing .write (snapshot s)
          image := { s.settings.image with patternValid := false } })
      []
  | .writing _ _ => refuse s .busy

/-- R173: the WRITE phase ends: every stored value of the snapshot is in the image, its pattern invalid. -/
def writeEnds (s : State) : State :=
  match s.settings.store with
  | .writing .write snap =>
    s.setSettings { s.settings with store := .writing .mark snap, image := { snap with patternValid := false } }
  | _ => s

/-- R173: the MARK phase ends: the pattern is written valid. -/
def markEnds (s : State) : State :=
  match s.settings.store with
  | .writing .mark snap =>
    s.setSettings
      { s.settings with
        store := .writing .readback snap
        image := { s.settings.image with patternValid := true } }
  | _ => s

/-- R173: READBACK ends with the image it read (log entry 14): equal to the snapshot, pattern included, or not. -/
def readbackEnds (found : SettingsImage) (s : State) : State :=
  match s.settings.store with
  | .writing .readback snap =>
    if found = { snap with patternValid := true } then
      s.setSettings { s.settings with store := .idle, lastResult := .ok, defaulted := false, image := found }
    else
      s.setSettings
        { s.settings with store := .idle, lastResult := .failed, image := { found with patternValid := false } }
  | _ => s

/-- R174: a power loss or a pin reset cuts a write short. In MARK the pattern is valid or not, as far as its writing
got: a free value (log entry 9). -/
def cutWrite (s : State) : State :=
  match s.settings.store with
  | .writing .mark _ =>
    { s with
      settings :=
        { s.settings with
          image := { s.settings.image with patternValid := Config.markWrittenValid s.freeIndex } }
      freeIndex := s.freeIndex + 1 }
  | _ => s

/-! ## Label and identity (R175) -/

/-- SET_LABEL (R175). -/
def ownSetLabel (label : List Byte) (s : State) : State × Status × List Byte :=
  accept (s.setSettings { s.settings with label := tabulate 16 fun k => label.getD k.val 0x20 }) []

/-- R175: IDENTIFY's 29 bytes. -/
def identifyBytes (label : Vector Byte 16) : List Byte :=
  [0x0A, 0x17, 0x0F, 0x32, 0x01] ++ bigEndian 8 Config.factoryNumber.toNat ++ label.toList

/-- IDENTIFY (R175). -/
def ownIdentify (s : State) : State × Status × List Byte := accept s (identifyBytes s.settings.label)

/-! ## The requests and events -/

/-- The IDENTIFY request; it is answered while the cause set is not empty. -/
def takeIdentify (s : State) : State := request 0x02 true ownIdentify s

/-- The STORE_SETTINGS request. -/
def takeStoreSettings (s : State) : State := request 0x06 false ownStoreSettings s

/-- The SET_LABEL request; a body without 16 label bytes does not fit its code. -/
def takeSetLabel (label : List Byte) (s : State) : State :=
  requestIfFits (decide (label.length = 16)) 0x07 (ownSetLabel label) s

/-- IDENTIFY (R175). -/
def execIdentify (s : State) : Host.Outcome State Fault Refusal := .next (takeIdentify s)

/-- STORE_SETTINGS (R172). -/
def execStoreSettings (s : State) : Host.Outcome State Fault Refusal := .next (takeStoreSettings s)

/-- SET_LABEL (R175). -/
def execSetLabel (label : List Byte) (s : State) : Host.Outcome State Fault Refusal := .next (takeSetLabel label s)

/-- WRITE_PHASE_END (R173). -/
def execWritePhaseEnd (s : State) : Host.Outcome State Fault Refusal := .next (if s.live then writeEnds s else s)

/-- MARK_PHASE_END (R173). -/
def execMarkPhaseEnd (s : State) : Host.Outcome State Fault Refusal := .next (if s.live then markEnds s else s)

/-- READBACK_END (R173). -/
def execReadbackEnd (found : SettingsImage) (s : State) : Host.Outcome State Fault Refusal :=
  .next (if s.live then readbackEnds found s else s)

end Sys2Proof.Machine
end

