-- ==== Sys2Proof/Machine/Start.lean ====
section
/-! DEFINITION. The start controller (10.4): the causes of a start, what each block takes at it, the end of the delay, and the loss of the supply. -/

namespace Sys2Proof.Machine

/-- R178, R181: POWER in the cause set. -/
def causePower : BitVec 3 := 0b001

/-- R178, R181: PIN in the cause set. -/
def causePin : BitVec 3 := 0b010

/-- R178, R181: REQUEST in the cause set. -/
def causeRequest : BitVec 3 := 0b100

/-- R24, R71, R72, R108, R126, R138, R156, R169, R172: every block stops and takes its full-reset value. What the
settings image gives is left to the load; the nodes on the line are not the part's (R138), and those in a contest that the
reset cuts off stay as they stand, with no loser withdrawn (the model's choice, log entry 39). -/
def resetBlocks (s : State) : State :=
  { s with
    settings := { s.settings with store := .idle, lastResult := .none }
    link :=
      { State.reset.link with rate := s.link.rate, enables := s.link.enables }
    dir := { State.reset.dir with bindings := s.dir.bindings }
    survey := State.reset.survey
    line := { State.reset.line with rate := s.line.rate }
    sched := { State.reset.sched with period := s.sched.period, missLimit := s.sched.missLimit }
    store := State.reset.store
    pool := State.reset.pool
    faults := { State.reset.faults with reactions := s.faults.reactions, ackWindow := s.faults.ackWindow } }

/-- The state with another start controller. -/
def State.setStart (s : State) (x : StartState) : State := { s with start := x }

/-- R176 steps 3 and 4: the start delay begins: the image is loaded and verified, and every block takes its
full-reset value. What the timestamp clock holds during the delay is open; here it holds 0 until it starts at 0 at the
delay's end (R179, log entry 24). -/
def beginDelay (s : State) : State :=
  let fresh := loadSettings (resetBlocks s)
  fresh.setStart { fresh.start with phase := .delay Config.startDelay, clock := 0 }

/-- R176: while RESET# is low the start does not proceed. -/
def holdStart (s : State) : State :=
  let fresh := resetBlocks s
  fresh.setStart { fresh.start with phase := .held, clock := 0 }

/-- R176: a start begins, with its cause set. A settings write in progress is cut short (R174). -/
def beginStart (causes : BitVec 3) (s : State) : State :=
  let cut := cutWrite s
  let caused := cut.setStart { cut.start with causes }
  if caused.start.pinLow then holdStart caused else beginDelay caused

/-- R178: the cause set at power-on. -/
def powerCauses (s : State) : BitVec 3 :=
  if s.start.pinLow ∧ Config.powerOnSeesPinLow = true then causePower ||| causePin else causePower

/-- R176: power-on. -/
def powerUp (s : State) : State := beginStart (powerCauses s) s

/-- R174, R176: the supply is lost: every block stops, and a write in progress is cut short. -/
def powerDown (s : State) : State :=
  let fresh := resetBlocks (cutWrite s)
  fresh.setStart { fresh.start with phase := .off, causes := 0, clock := 0 }

/-- R176: a low level on RESET#. Without a supply only the pin's level is noted. -/
def pinFalls (s : State) : State :=
  let low := s.setStart { s.start with pinLow := true }
  if s.start.phase = .off then low else beginStart (s.start.causes ||| causePin) low

/-- R176: RESET# returns high: the start that it held goes on, its delay counted afresh. -/
def pinRises (s : State) : State :=
  let high := s.setStart { s.start with pinLow := false }
  if s.start.phase = .held then beginDelay high else high

/-- R177: the start that an accepted RESTART asked for. -/
def restartNow (s : State) : State := beginStart (s.start.causes ||| causeRequest) s

/-- R176 step 5: the delay has run out: the clock starts at 0, the receiver is in HUNT, requests are taken. Commanded
sooner, the end comes when the milliseconds left have passed (log entry 5). -/
def startEnds (s : State) : State :=
  match s.start.phase with
  | .delay _ => s.setStart { s.start with phase := .running, clock := 0 }
  | .off => s
  | .held => s
  | .running => s

/-- POWER_ON (R176). -/
def execPowerOn (s : State) : Host.Outcome State Fault Refusal := .next (powerUp s)

/-- POWER_LOSS (R174). -/
def execPowerLoss (s : State) : Host.Outcome State Fault Refusal := .next (powerDown s)

/-- RESET_PIN_LOW (R176). -/
def execResetPinLow (s : State) : Host.Outcome State Fault Refusal := .next (pinFalls s)

/-- RESET_PIN_HIGH (R176). -/
def execResetPinHigh (s : State) : Host.Outcome State Fault Refusal := .next (pinRises s)

/-- REQUESTED_RESTART (R177): at the end of the reply of an accepted RESTART. -/
def execRequestedRestart (s : State) : Host.Outcome State Fault Refusal :=
  .next (if s.live ∧ s.link.restartDue ∧ s.link.reply.isSome then restartNow s else s)

/-- START_DELAY_END (R176). -/
def execStartDelayEnd (s : State) : Host.Outcome State Fault Refusal := .next (startEnds s)

end Sys2Proof.Machine
end

