-- ==== Sys2Proof/Machine/Clock.lean ====
section
/-! DEFINITION. Time: the expiry of a deadline and of the cycle timer, the milliseconds until one that is commanded, and the millisecond tick that the part takes when no command waits (log entry 3). -/

namespace Sys2Proof.Machine

/-! ## The cycle timer (R74) -/

/-- R74: late cycles are counted where slots are still due. -/
def countLate (s : State) : State :=
  if s.lowestDue.isSome then { s with sched := { s.sched with lateCycles := satAdd s.sched.lateCycles 1 } } else s

/-- R74: the cycle timer has run out while the line is RUNNING. -/
def cycleDue (s : State) : Bool :=
  match s.sched.cycle with
  | some c => decide (c.remaining = 0) && decide (s.line.state = .running)
  | none => false

/-- R74: the cycle timer expires in RUNNING. -/
def cycleExpires (s : State) : State := if cycleDue s then settle (cycleStart (countLate s)) else s

/-! ## The milliseconds until a commanded expiry (R74, R148, log entry 5) -/

/-- What is due at this millisecond comes about: every deadline that is reached, in the order of the kind codes, then a
cycle that has run out. -/
def settleDue (s : State) : State := cycleExpires (faultKinds.foldl (fun u k => deadlineExpires k u) s)

/-- Milliseconds pass, each after what is due at it. -/
def elapse : Nat → State → State
  | 0, s => s
  | n + 1, s => elapse n ((settleDue s).passTime 1)

/-- The milliseconds left to a PENDING kind's deadline. -/
def deadlineLeft (k : FaultKind) (s : State) : Nat :=
  match (s.record k).alert, (s.record k).deadline with
  | .pending, some d => if deadlineReached d s.now then 0 else (d - s.now).toNat
  | _, _ => 0

/-- A kind's expiry, commanded sooner, comes when the milliseconds left to its deadline have passed. -/
def reachDeadline (k : FaultKind) (s : State) : State := elapse (deadlineLeft k s) s

/-- The milliseconds left on the cycle timer of a RUNNING line. -/
def cycleLeft (s : State) : Nat :=
  match s.sched.cycle with
  | some c => if s.line.state = .running then c.remaining else 0
  | none => 0

/-- The cycle timer's expiry, commanded sooner, comes when the milliseconds left on it have passed. -/
def cycleRunsOut (s : State) : State := elapse (cycleLeft s) s

/-- ALERT_DEADLINE_EXPIRY (R148). -/
def execAlertDeadlineExpiry (kind : FaultKind) (s : State) : Host.Outcome State Fault Refusal :=
  .next (whenLive (fun u => deadlineExpires kind (reachDeadline kind u)) s)

/-- CYCLE_TIMER_EXPIRY (R74). -/
def execCycleTimerExpiry (s : State) : Host.Outcome State Fault Refusal :=
  .next (whenLive (fun u => cycleExpires (cycleRunsOut u)) s)

/-! ## The tick (log entry 3) -/

/-- The lowest kind in code order whose deadline is reached (R148). -/
def State.firstExpired (s : State) : Option FaultKind := faultKinds.find? s.expired

/-- A part whose start has ended: a deadline that is reached expires, then a cycle that has run out ends, each in a
step of its own; with neither due, a millisecond passes. The phases of a settings write have no length here: each ends
with its command, even past the 60 ms of R173 (log entry 37). -/
def tickRunning (s : State) : State :=
  match s.firstExpired with
  | some k => deadlineExpires k s
  | none => if cycleDue s then cycleExpires s else s.passTime 1

/-- What the part does when no command waits: nothing without a supply or while RESET# holds it; in the start delay
a millisecond of it (R176), and the end of the delay is a step of its own after its last millisecond (log entry 3); else
as `tickRunning` says. -/
def tick (s : State) : State :=
  match s.start.phase with
  | .off => s
  | .held => s
  | .delay 0 => startEnds s
  | .delay (n + 1) => s.setStart { s.start with phase := .delay n }
  | .running => tickRunning s

end Sys2Proof.Machine
end

