-- ==== Sys2Proof/Machine/LineRequests.lean ====
section
/-! DEFINITION. The requests on the line state, the line rate, the survey and polling (02 R26, 03 R47 to R50, 04 R73, 07). -/

namespace Sys2Proof.Machine

/-! ## The owner's decision on each request -/

/-- R129, R134: the line enters RUNNING: a cycle start with no late count, and the silence timer starts. -/
def enterRunning (s : State) : State :=
  cycleStart (s.setLine { s.line with state := .running, silence := true, haltTimer := false, haltWaiting := false })

/-- START_LINE (R129). -/
def ownStartLine (s : State) : State × Status × List Byte :=
  match s.line.state with
  | .off => if s.alertPin then refuse s .alertPending else accept (settle (enterRunning s)) []
  | .running => accept s []
  | .survey => accept s []
  | .held => refuse s .lineHeld

/-- The line state becomes OFF. -/
def enterOff (s : State) : State :=
  s.setLine { s.line with state := .off, haltTimer := false, haltWaiting := false }

/-- STOP_LINE (R130). -/
def ownStopLine (s : State) : State × Status × List Byte :=
  match s.line.state with
  | .off => accept s []
  | .running => accept (settle (enterOff (stopPolling (abortTransaction s)))) []
  | .survey => accept (settle (enterOff (addOwed .close (stopPolling (abortTransaction (stopSurvey s)))))) []
  | .held => refuse s .lineHeld

/-- HOLD_LINE (R131, R133). -/
def ownHoldLine (s : State) : State × Status × List Byte :=
  match s.line.state with
  | .off => accept (settle (holdEntry s)) []
  | .running => accept (settle (holdEntry s)) []
  | .survey => accept (settle (holdEntry s)) []
  | .held => accept s []

/-- RESUME_LINE (R134). -/
def ownResumeLine (s : State) : State × Status × List Byte :=
  match s.line.state with
  | .off => refuse s .wrongState
  | .running => refuse s .wrongState
  | .survey => refuse s .wrongState
  | .held => if s.alertPin then refuse s .alertPending else accept (settle (enterRunning (addOwed .go s))) []

/-- R71: the round state and the consecutive-failure count after a line reset; a survey that is still to stop at its
frame boundary discards them there (R64). -/
def clearRounds (s : State) : State :=
  if s.survey.stopping then s else s.setSurvey { s.survey with round := none, failures := 0 }

/-- R136: the event of a line reset. -/
def lineReset (s : State) : State :=
  enterOff (addOwed .unseatAll (stopPolling (abortQueued (abortTransaction (clearRounds (stopSurvey s))))))

/-- RESET_LINE (R136). -/
def ownResetLine (s : State) : State × Status × List Byte := accept (settle (lineReset s)) []

/-- SET_LINE_RATE (R26). -/
def ownSetLineRate (rate : Byte) (s : State) : State × Status × List Byte :=
  if rate.toNat = 10 ∨ rate.toNat = 20 ∨ rate.toNat = 40 then
    if s.line.state = .off then accept (s.setLine { s.line with rate := rate.toNat }) []
    else refuse s .wrongState
  else refuse s .badValue

/-- R47: a survey begins: the cycle timer and the silence timer stop, and the result record is rewritten. A survey
stopped before, whose frame boundary has not come yet, has stopped by now (log entry 15). -/
def startSurvey (s : State) : State :=
  let t := frameBoundary s
  { t with
    line := { t.line with state := .survey, silence := false, keepWaiting := false }
    sched := { t.sched with cycle := none }
    survey :=
      { record := { SurveyRecord.blank with state := .running, start := some t.now }
        round := none
        failures := 0
        stopping := false } }

/-- SURVEY (R47). The reply is sent before any survey frame reaches the line, so on a free line the first CALL begins at
the end of that reply (R48, log entry 36). -/
def ownSurvey (s : State) : State × Status × List Byte :=
  match s.line.state with
  | .running => accept (startSurvey s) []
  | .survey => refuse s .busy
  | .off => refuse s .lineOff
  | .held => refuse s .lineHeld

/-- R182: SURVEY_RESULT's 16 bytes. -/
def surveyResultBytes (r : SurveyRecord) : List Byte :=
  [surveyStateCode r.state, BitVec.ofNat 8 r.roundsRun, BitVec.ofNat 8 r.newSeated, BitVec.ofNat 8 r.rejoined,
      BitVec.ofNat 8 r.skipped, BitVec.ofNat 8 r.failedRounds, BitVec.ofNat 8 r.undescribed,
      (if r.start.isSome then 0x01 else 0x00) ||| (if r.finish.isSome then 0x02 else 0x00)] ++
    optionBytes 4 (fun t : Timestamp => bigEndian 4 t.toNat) r.start ++
    optionBytes 4 (fun t : Timestamp => bigEndian 4 t.toNat) r.finish

/-- SURVEY_RESULT (R50): the latch is cleared; until the reply has ended, an ending may still fall before the
clearing (log entry 10). -/
def ownSurveyResult (s : State) : State × Status × List Byte :=
  accept { s with link := { s.link with surveyDone := false, clearMayFollow := true } }
    (surveyResultBytes s.survey.record)

/-- SET_POLL (R73). -/
def ownSetPoll (period : BitVec 16) (missLimit : Byte) (s : State) : State × Status × List Byte :=
  if 10 ≤ period.toNat ∧ period.toNat ≤ 10000 ∧ 1 ≤ missLimit.toNat ∧ missLimit.toNat ≤ 15 then
    accept (zeroMisses { s with sched := { s.sched with period := period.toNat, missLimit := missLimit.toNat } }) []
  else refuse s .badValue

/-! ## The requests -/

/-- The START_LINE request. -/
def takeStartLine (s : State) : State := request 0x10 false ownStartLine s

/-- The STOP_LINE request. -/
def takeStopLine (s : State) : State := request 0x11 false ownStopLine s

/-- The HOLD_LINE request. -/
def takeHoldLine (s : State) : State := request 0x12 false ownHoldLine s

/-- The RESUME_LINE request. -/
def takeResumeLine (s : State) : State := request 0x13 false ownResumeLine s

/-- The RESET_LINE request. -/
def takeResetLine (s : State) : State := request 0x14 false ownResetLine s

/-- The SET_LINE_RATE request. -/
def takeSetLineRate (rate : Byte) (s : State) : State := request 0x15 false (ownSetLineRate rate) s

/-- The SURVEY request. -/
def takeSurvey (s : State) : State := request 0x16 false ownSurvey s

/-- The SURVEY_RESULT request. -/
def takeSurveyResult (s : State) : State := request 0x17 false ownSurveyResult s

/-- The SET_POLL request. -/
def takeSetPoll (period : BitVec 16) (missLimit : Byte) (s : State) : State :=
  request 0x18 false (ownSetPoll period missLimit) s

/-- START_LINE (R129). -/
def execStartLine (s : State) : Host.Outcome State Fault Refusal := .next (takeStartLine s)

/-- STOP_LINE (R130). -/
def execStopLine (s : State) : Host.Outcome State Fault Refusal := .next (takeStopLine s)

/-- HOLD_LINE (R131). -/
def execHoldLine (s : State) : Host.Outcome State Fault Refusal := .next (takeHoldLine s)

/-- RESUME_LINE (R134). -/
def execResumeLine (s : State) : Host.Outcome State Fault Refusal := .next (takeResumeLine s)

/-- RESET_LINE (R136). -/
def execResetLine (s : State) : Host.Outcome State Fault Refusal := .next (takeResetLine s)

/-- SET_LINE_RATE (R26). -/
def execSetLineRate (rate : Byte) (s : State) : Host.Outcome State Fault Refusal := .next (takeSetLineRate rate s)

/-- SURVEY (R47). -/
def execSurvey (s : State) : Host.Outcome State Fault Refusal := .next (takeSurvey s)

/-- SURVEY_RESULT (R50). -/
def execSurveyResult (s : State) : Host.Outcome State Fault Refusal := .next (takeSurveyResult s)

/-- SET_POLL (R73). -/
def execSetPoll (period : BitVec 16) (missLimit : Byte) (s : State) : Host.Outcome State Fault Refusal :=
  .next (takeSetPoll period missLimit s)

end Sys2Proof.Machine
end

