-- ==== Sys2Proof/Machine/Link.lean ====
section
/-! DEFINITION. The host link unit's own requests, the start controller's, and the end of a reply (09, 10 R177, R178). -/

namespace Sys2Proof.Machine

/-- The state with another host link unit. -/
def State.setLink (s : State) (l : LinkState) : State := { s with link := l }

/-! ## The owner's decision on each request -/

/-- R168, R182: STATUS's 25 bytes. -/
def statusBytes (s : State) : List Byte :=
  [lineStateCode s.line.state, surveyStateCode s.survey.record.state, storeStateCode s.settings.store,
      storeResultCode s.settings.lastResult, flagByte s.settings.defaulted, BitVec.ofNat 8 s.start.causes.toNat,
      BitVec.ofNat 8 s.sources.toNat, BitVec.ofNat 8 s.link.enables.toNat, BitVec.ofNat 8 s.alertCount,
      BitVec.ofNat 8 s.pool.queued.length, flagByte s.pool.inFlight.isSome, BitVec.ofNat 8 s.pool.completed.length] ++
    bigEndian 2 s.sched.lateCycles.toNat ++ bigEndian 2 s.link.framing.toNat ++ bigEndian 2 s.link.timeout.toNat ++
    bigEndian 2 s.link.check.toNat ++ flagByte s.link.overrun :: bigEndian 4 s.now.toNat

/-- STATUS (R168): the reply and the clearing of the overrun flag are one event. -/
def ownStatus (s : State) : State × Status × List Byte :=
  accept (s.setLink { s.link with overrun := false }) (statusBytes s)

/-- READ_CAUSES (R178). -/
def ownReadCauses (s : State) : State × Status × List Byte := accept s [BitVec.ofNat 8 s.start.causes.toNat]

/-- CLEAR_CAUSES (R178). -/
def ownClearCauses (s : State) : State × Status × List Byte := accept (s.setStart { s.start with causes := 0 }) []

/-- RESTART (R177). -/
def ownRestart (s : State) : State × Status × List Byte :=
  match s.settings.store with
  | .idle => accept (s.setLink { s.link with restartDue := true }) []
  | .writing _ _ => refuse s .busy

/-- SET_LINK_RATE (R158): the new rate waits for the end of the reply; the rate in use changes nothing. -/
def ownSetLinkRate (rate : Byte) (s : State) : State × Status × List Byte :=
  match linkRateOf rate with
  | none => refuse s .badValue
  | some r => if r = s.link.rate then accept s [] else accept (s.setLink { s.link with rateChange := some r }) []

/-- SET_ATTENTION (R167, R181). -/
def ownSetAttention (enables : Byte) (s : State) : State × Status × List Byte :=
  if enables.toNat < 32 then accept (s.setLink { s.link with enables := BitVec.ofNat 5 enables.toNat }) []
  else refuse s .badValue

/-! ## The end of a reply (R158, R162, R177) -/

/-- R158: at the end of the SET_LINK_RATE reply the new rate takes effect, and the receiver discards what it holds
of a frame and hunts at the new rate; a low level that it waits out (R157) it goes on waiting out. -/
def applyRate (s : State) : State :=
  match s.link.rateChange with
  | some r =>
    s.setLink
      { s.link with rate := r, rateChange := none, rx := { Receiver.idle with highDue := s.link.rx.highDue } }
  | none => s

/-- R162: the reply stops being owed. The reply of an accepted RESTART ends in the start (R177, log entry 22); once the
reply of an accepted SURVEY has been sent, the survey's frames may begin (R47, log entry 36). -/
def replyEnds (s : State) : State :=
  if s.link.reply.isSome then
    if s.link.restartDue then restartNow s
    else
      let sent := applyRate (s.setLink { s.link with reply := none, clearMayFollow := false })
      if s.surveyReplyOwed then settle sent else sent
  else s

/-! ## The requests and events -/

/-- The STATUS request; it is answered while the cause set is not empty. -/
def takeStatus (s : State) : State := request 0x01 true ownStatus s

/-- The READ_CAUSES request; it is answered while the cause set is not empty. -/
def takeReadCauses (s : State) : State := request 0x03 true ownReadCauses s

/-- The CLEAR_CAUSES request; it is answered while the cause set is not empty. -/
def takeClearCauses (s : State) : State := request 0x04 true ownClearCauses s

/-- The RESTART request. -/
def takeRestart (s : State) : State := request 0x05 false ownRestart s

/-- The SET_LINK_RATE request. -/
def takeSetLinkRate (rate : Byte) (s : State) : State := request 0x08 false (ownSetLinkRate rate) s

/-- The SET_ATTENTION request. -/
def takeSetAttention (enables : Byte) (s : State) : State := request 0x09 false (ownSetAttention enables) s

/-- STATUS (R168). -/
def execStatus (s : State) : Host.Outcome State Fault Refusal := .next (takeStatus s)

/-- READ_CAUSES (R178). -/
def execReadCauses (s : State) : Host.Outcome State Fault Refusal := .next (takeReadCauses s)

/-- CLEAR_CAUSES (R178). -/
def execClearCauses (s : State) : Host.Outcome State Fault Refusal := .next (takeClearCauses s)

/-- RESTART (R177). -/
def execRestart (s : State) : Host.Outcome State Fault Refusal := .next (takeRestart s)

/-- SET_LINK_RATE (R158). -/
def execSetLinkRate (rate : Byte) (s : State) : Host.Outcome State Fault Refusal := .next (takeSetLinkRate rate s)

/-- SET_ATTENTION (R167). -/
def execSetAttention (enables : Byte) (s : State) : Host.Outcome State Fault Refusal := .next (takeSetAttention enables s)

/-- REPLY_END (R162). -/
def execReplyEnd (s : State) : Host.Outcome State Fault Refusal := .next (if s.live then replyEnds s else s)

end Sys2Proof.Machine
end

