-- ==== Sys2Proof/Machine/Transactions.lean ====
section
/-! DEFINITION. The pool requests (06): acceptance of the five node transactions, TAKE_RESULTS and CANCEL. -/

namespace Sys2Proof.Machine

/-- Whether a request is a NODE_WRITE. -/
def isWrite (work : PoolWork) : Bool :=
  match work with
  | .write _ _ => true
  | .read _ => false
  | .describe => false
  | .release => false
  | .test _ => false

/-- R111 check 7: a NODE_WRITE finds the gate closed in mode GATED or LATCHED. -/
def gateRefuses (work : PoolWork) (e : Entry) : Bool :=
  isWrite work && decide (e.gateMode ≠ .free) && !e.gateOpen

/-- R112, R14: acceptance of a NODE_WRITE in mode GATED closes the gate. -/
def gateAfter (work : PoolWork) (e : Entry) : Entry :=
  if isWrite work ∧ e.gateMode = .gated then { e with gateOpen := false } else e

/-- R112: a request is accepted: its record joins the tail of the queue, and the gate is dealt with. -/
def enqueue (tag : Byte) (i : Slot) (work : PoolWork) (s : State) : State :=
  (s.setPool { s.pool with queued := s.pool.queued ++ [{ tag, slot := i, work, attempts := 0 }] }).setEntry i
    (gateAfter work (s.entry i))

/-- R111: the acceptance checks of the five requests, in order; `valid` says that the further parameters lie in
their ranges. -/
def ownPoolRequest (tag slot : Byte) (valid : Bool) (work : PoolWork) (s : State) : State × Status × List Byte :=
  if tag = 0 ∨ valid = false then refuse s .badValue
  else
    withSlot slot s fun i =>
      if s.line.state = .held then refuse s .lineHeld
      else if (s.entry i).state = .free then refuse s .noNode
      else if tag ∈ s.pool.tags then refuse s .duplicateTag
      else if 8 ≤ s.pool.size then refuse s .poolFull
      else if gateRefuses work (s.entry i) then refuse s .gateClosed
      else accept (settle (enqueue tag i work s)) []

/-- TAKE_RESULTS at the request pool (R121). -/
def ownTakeResults (max : Byte) (s : State) : State × Status × List Byte :=
  if 1 ≤ max.toNat ∧ max.toNat ≤ 8 then
    let taken := s.pool.completed.take max.toNat
    let left := s.pool.completed.drop max.toNat
    accept (s.setPool { s.pool with completed := left })
      (BitVec.ofNat 8 taken.length :: BitVec.ofNat 8 left.length :: (taken.map completionBytes).flatten)
  else refuse s .badValue

/-- CANCEL at the request pool (R122). -/
def ownCancel (tag : Byte) (s : State) : State × Status × List Byte :=
  if tag = 0 then refuse s .badValue
  else if tag ∈ s.pool.queued.map (·.tag) then
    accept (s.setPool { s.pool with queued := s.pool.queued.filter fun r => r.tag ≠ tag }) []
  else if tag ∈ s.pool.inFlight.toList.map (·.tag) then refuse s .inFlight
  else if tag ∈ s.pool.completed.map (·.request.tag) then refuse s .wrongState
  else refuse s .unknownTag

/-! ## The requests -/

/-- The NODE_READ request. -/
def takeNodeRead (tag slot item : Byte) (s : State) : State :=
  request 0x40 false (ownPoolRequest tag slot true (.read item)) s

/-- The NODE_WRITE request; a body with 0 or more than 8 value bytes does not fit its code (R110). -/
def takeNodeWrite (tag slot item : Byte) (values : List Byte) (s : State) : State :=
  requestIfFits (decide (1 ≤ values.length) && decide (values.length ≤ 8)) 0x41
    (ownPoolRequest tag slot true (.write item values)) s

/-- The NODE_DESCRIBE request. -/
def takeNodeDescribe (tag slot : Byte) (s : State) : State := request 0x42 false (ownPoolRequest tag slot true .describe) s

/-- The NODE_RELEASE request. -/
def takeNodeRelease (tag slot : Byte) (s : State) : State := request 0x43 false (ownPoolRequest tag slot true .release) s

/-- The NODE_TEST request. -/
def takeNodeTest (tag slot pattern : Byte) (s : State) : State :=
  request 0x44 false (ownPoolRequest tag slot (patternOf pattern).isSome (.test ((patternOf pattern).getD .a))) s

/-- The TAKE_RESULTS request. -/
def takeTakeResults (max : Byte) (s : State) : State := request 0x45 false (ownTakeResults max) s

/-- The CANCEL request. -/
def takeCancel (tag : Byte) (s : State) : State := request 0x46 false (ownCancel tag) s

/-- NODE_READ (R111). -/
def execNodeRead (tag slot item : Byte) (s : State) : Host.Outcome State Fault Refusal := .next (takeNodeRead tag slot item s)

/-- NODE_WRITE (R111). -/
def execNodeWrite (tag slot item : Byte) (values : List Byte) (s : State) : Host.Outcome State Fault Refusal :=
  .next (takeNodeWrite tag slot item values s)

/-- NODE_DESCRIBE (R111). -/
def execNodeDescribe (tag slot : Byte) (s : State) : Host.Outcome State Fault Refusal := .next (takeNodeDescribe tag slot s)

/-- NODE_RELEASE (R111). -/
def execNodeRelease (tag slot : Byte) (s : State) : Host.Outcome State Fault Refusal := .next (takeNodeRelease tag slot s)

/-- NODE_TEST (R111). -/
def execNodeTest (tag slot pattern : Byte) (s : State) : Host.Outcome State Fault Refusal :=
  .next (takeNodeTest tag slot pattern s)

/-- TAKE_RESULTS (R121). -/
def execTakeResults (max : Byte) (s : State) : Host.Outcome State Fault Refusal := .next (takeTakeResults max s)

/-- CANCEL (R122). -/
def execCancel (tag : Byte) (s : State) : Host.Outcome State Fault Refusal := .next (takeCancel tag s)

end Sys2Proof.Machine
end

