-- ==== Sys2Proof/Machine/Frames.lean ====
section
/-! DEFINITION. The receiver of the host link byte by byte (R159 to R163), the judgement of a complete frame (R161, R164), and the frame events. -/

namespace Sys2Proof.Machine

/-! ## Dispatch (R164) -/

/-- R164: the request that a body spells goes to the block that owns it. What is no request reaches no block. -/
def takeRequest (i : Instr) (s : State) : State :=
  match i with
  | .status => takeStatus s
  | .identify => takeIdentify s
  | .readCauses => takeReadCauses s
  | .clearCauses => takeClearCauses s
  | .restart => takeRestart s
  | .storeSettings => takeStoreSettings s
  | .setLabel label => takeSetLabel label s
  | .setLinkRate rate => takeSetLinkRate rate s
  | .setAttention enables => takeSetAttention enables s
  | .startLine => takeStartLine s
  | .stopLine => takeStopLine s
  | .holdLine => takeHoldLine s
  | .resumeLine => takeResumeLine s
  | .resetLine => takeResetLine s
  | .setLineRate rate => takeSetLineRate rate s
  | .survey => takeSurvey s
  | .surveyResult => takeSurveyResult s
  | .setPoll period missLimit => takeSetPoll period missLimit s
  | .listNodes first => takeListNodes first s
  | .nodeInfo slot => takeNodeInfo slot s
  | .dirChanges => takeDirChanges s
  | .pause slot => takePause slot s
  | .activate slot => takeActivate slot s
  | .forget slot => takeForget slot s
  | .openGate slot => takeOpenGate slot s
  | .closeGate slot => takeCloseGate slot s
  | .setGateMode slot mode => takeSetGateMode slot mode s
  | .bind slot => takeBind slot s
  | .unbind slot => takeUnbind slot s
  | .listBindings => takeListBindings s
  | .assignRing slot base size policy watermark => takeAssignRing slot base size policy watermark s
  | .setRing slot policy watermark => takeSetRing slot policy watermark s
  | .releaseRing slot => takeReleaseRing slot s
  | .fetch slot max => takeFetch slot max s
  | .peek slot skip max => takePeek slot skip max s
  | .flushRing slot => takeFlushRing slot s
  | .ringInfo slot => takeRingInfo slot s
  | .nodeRead tag slot item => takeNodeRead tag slot item s
  | .nodeWrite tag slot item values => takeNodeWrite tag slot item values s
  | .nodeDescribe tag slot => takeNodeDescribe tag slot s
  | .nodeRelease tag slot => takeNodeRelease tag slot s
  | .nodeTest tag slot pattern => takeNodeTest tag slot pattern s
  | .takeResults max => takeTakeResults max s
  | .cancel tag => takeCancel tag s
  | .faultSummary => takeFaultSummary s
  | .faultRecord kind => takeFaultRecord kind s
  | .faultAck kind => takeFaultAck kind s
  | .clearFault kind => takeClearFault kind s
  | .setReaction kind reaction => takeSetReaction kind reaction s
  | .setAckWindow window => takeSetAckWindow window s
  | .injectFault kind slot detail => takeInjectFault kind slot detail s
  | .powerOn => s
  | .resetPinLow => s
  | .resetPinHigh => s
  | .requestedRestart => s
  | .startDelayEnd => s
  | .requestFrame _ => s
  | .framingError _ => s
  | .frameDiscardedByLen _ => s
  | .timeoutError _ => s
  | .overrunFrame _ => s
  | .replyEnd => s
  | .writePhaseEnd => s
  | .markPhaseEnd => s
  | .readbackEnd _ => s
  | .alertDeadlineExpiry _ => s
  | .commandSent _ => s
  | .answerWindowExpiry => s
  | .answerReceived _ => s
  | .twentyFirstCharacter => s
  | .collision => s
  | .spaceEnd => s
  | .keep => s
  | .haltRepeat => s
  | .lineStuck => s
  | .stuckEpisodeEnd => s
  | .cycleTimerExpiry => s
  | .contestEnd _ _ => s
  | .answerStart => s
  | .broadcastFrameEnd _ => s
  | .powerLoss => s
  | .nodeIdleDrop _ => s
  | .nodeRestart _ _ _ _ _ _ => s

/-- A reply that the host link unit gives by itself, for a frame that no block takes. -/
def answerFrame (code : Byte) (status : Status) (s : State) : State :=
  if s.link.reply.isSome then s.overrunning else s.replied code status []

/-- R161: a complete frame whose CRC-16 does not match: the check error count rises, and the reject reply is owed. -/
def rejectFrame (s : State) : State :=
  answerFrame 0xFF .badCheck (s.setLink { s.link with check := satAdd s.link.check 1 })

/-- R161, R164: a complete frame is judged: its check, its code, its length, and then its request goes to dispatch,
which looks at the cause set and hands it to its owner. -/
def judgeFrame (body : List Byte) (crcHigh crcLow : Byte) (s : State) : State :=
  if crc16 (BitVec.ofNat 8 body.length :: body) = word16 crcHigh crcLow then
    match decodeBody body with
    | .ok i => takeRequest i s
    | .error status => answerFrame (body.headD 0x00) status s
  else rejectFrame s

/-! ## The receiver (R159) -/

/-- The state with another receiver. -/
def State.setRx (s : State) (r : Receiver) : State := s.setLink { s.link with rx := r }

/-- HUNT: SYNC begins a frame; taken while a reply is owed it begins an overrun frame and sets the flag (R162). -/
def takeHunt (b : Byte) (s : State) : State :=
  if b = 0xD5 then
    let begun := s.setRx { Receiver.idle with phase := .length, overrun := s.link.reply.isSome }
    if s.link.reply.isSome then begun.overrunning else begun
  else s

/-- R157: the framing error count rises by a number of errors. -/
def countErrors (n : Nat) (s : State) : State := s.setLink { s.link with framing := satAdd s.link.framing n }

/-- R159: the framing error count rises and the receiver hunts. -/
def countFraming (s : State) : State := (countErrors 1 s).setRx Receiver.idle

/-- LENGTH: 1 to 240 is kept; any other value discards the frame. -/
def takeLength (b : Byte) (s : State) : State :=
  if 1 ≤ b.toNat ∧ b.toNat ≤ 240 then s.setRx { s.link.rx with phase := .body, len := b.toNat } else countFraming s

/-- BODY: the byte is kept; after the LEN-th the CRC bytes follow. -/
def takeBody (b : Byte) (s : State) : State :=
  let buffer := s.link.rx.buffer ++ [b]
  s.setRx { s.link.rx with buffer, phase := if buffer.length < s.link.rx.len then .body else .check }

/-- CHECK: after the second CRC byte the frame is complete and judged; an overrun frame is not (R162). -/
def takeCheck (b : Byte) (s : State) : State :=
  match s.link.rx.crcFirst with
  | none => s.setRx { s.link.rx with crcFirst := some b }
  | some high =>
    if s.link.rx.overrun then s.setRx Receiver.idle
    else judgeFrame s.link.rx.buffer high b (s.setRx Receiver.idle)

/-- R159: the receiver takes one byte. -/
def takeByte (s : State) (b : Byte) : State :=
  match s.link.rx.phase with
  | .hunt => takeHunt b s
  | .length => takeLength b s
  | .body => takeBody b s
  | .check => takeCheck b s

/-- R157: RXD passes these levels while the receiver waits for it to be high. -/
def waitOut (levels : List PinLevel) (s : State) : State :=
  s.setRx { s.link.rx with highDue := waitOver s.link.rx.highDue levels }

/-- Characters arrive. Where the receiver hunts, a SYNC comes before them; where it is inside a frame they go on
with that frame (log entry 7). While it waits for RXD to be high it takes none of them (R157). -/
def arrive (chars : List Byte) (s : State) : State :=
  if 0 < s.link.rx.highDue then waitOut (linkLevels (0xD5 :: chars)) s
  else (if s.link.rx.phase = .hunt then 0xD5 :: chars else chars).foldl takeByte s

/-- R160: a gap of ten character times: the partial frame is discarded and the timeout error count rises; in HUNT the
receiver waits without limit. RXD is high in the gap, so a receiver that waits for that has waited long enough (R157). -/
def gapPasses (s : State) : State :=
  if s.link.rx.phase = .hunt then s.setRx { s.link.rx with highDue := 0 }
  else s.setLink { s.link with timeout := satAdd s.link.timeout 1, rx := Receiver.idle }

/-- R157: a character whose stop bit reads low is discarded and counted, with the partial frame; each further low level
longer than one character counts too. While the receiver still waits out a low level it takes no character, so each low
level longer than one character counts, and a shorter one does not. -/
def breakChar (levels : List PinLevel) (s : State) : State :=
  if 0 < s.link.rx.highDue then waitOut levels (countErrors (longLows 0 levels) s)
  else (countErrors (1 + laterLongLows levels) s).setRx { Receiver.idle with highDue := highDueAfter levels }

/-- The characters of the frame, if one was being received, before a character whose stop bit reads low. -/
def arriveWithin (within : Option (List Byte)) (s : State) : State :=
  match within with
  | some chars => arrive chars s
  | none => s

/-- REQUEST_FRAME (R159). Before the start has ended characters are discarded without count (R169). -/
def execRequestFrame (chars : List Byte) (s : State) : Host.Outcome State Fault Refusal :=
  .next (if s.live then arrive chars s else s)

/-- FRAMING_ERROR (R157). -/
def execFramingError (char : BrokenChar) (s : State) : Host.Outcome State Fault Refusal :=
  .next (if s.live then breakChar char.levels (arriveWithin char.within s) else s)

/-- FRAME_DISCARDED_BY_LEN (R159). -/
def execFrameDiscardedByLen (len : Byte) (s : State) : Host.Outcome State Fault Refusal :=
  .next (if s.live then arrive [len] s else s)

/-- TIMEOUT_ERROR (R160). -/
def execTimeoutError (chars : List Byte) (s : State) : Host.Outcome State Fault Refusal :=
  .next (if s.live then gapPasses (arrive chars s) else s)

/-- OVERRUN_FRAME (R162): whether the frame is an overrun frame the receiver sees at its SYNC. -/
def execOverrunFrame (chars : List Byte) (s : State) : Host.Outcome State Fault Refusal :=
  .next (if s.live then arrive chars s else s)

end Sys2Proof.Machine
end

