-- ==== Sys2Proof/Machine/Dispatch.lean ====
section
/-! DEFINITION. The meaning of every command: one arm per constructor, one call of its meaning each. -/

namespace Sys2Proof.Machine

/-- The effect of a command on everything but the queue. -/
def exec (i : Instr) (s : State) : Host.Outcome State Fault Refusal :=
  match i with
  | .powerOn => Sys2Proof.Machine.execPowerOn s
  | .resetPinLow => Sys2Proof.Machine.execResetPinLow s
  | .resetPinHigh => Sys2Proof.Machine.execResetPinHigh s
  | .requestedRestart => Sys2Proof.Machine.execRequestedRestart s
  | .startDelayEnd => Sys2Proof.Machine.execStartDelayEnd s
  | .requestFrame chars => Sys2Proof.Machine.execRequestFrame chars s
  | .framingError char => Sys2Proof.Machine.execFramingError char s
  | .frameDiscardedByLen len => Sys2Proof.Machine.execFrameDiscardedByLen len s
  | .timeoutError chars => Sys2Proof.Machine.execTimeoutError chars s
  | .overrunFrame chars => Sys2Proof.Machine.execOverrunFrame chars s
  | .replyEnd => Sys2Proof.Machine.execReplyEnd s
  | .status => Sys2Proof.Machine.execStatus s
  | .identify => Sys2Proof.Machine.execIdentify s
  | .readCauses => Sys2Proof.Machine.execReadCauses s
  | .clearCauses => Sys2Proof.Machine.execClearCauses s
  | .restart => Sys2Proof.Machine.execRestart s
  | .storeSettings => Sys2Proof.Machine.execStoreSettings s
  | .setLabel label => Sys2Proof.Machine.execSetLabel label s
  | .setLinkRate rate => Sys2Proof.Machine.execSetLinkRate rate s
  | .setAttention enables => Sys2Proof.Machine.execSetAttention enables s
  | .writePhaseEnd => Sys2Proof.Machine.execWritePhaseEnd s
  | .markPhaseEnd => Sys2Proof.Machine.execMarkPhaseEnd s
  | .readbackEnd found => Sys2Proof.Machine.execReadbackEnd found s
  | .startLine => Sys2Proof.Machine.execStartLine s
  | .stopLine => Sys2Proof.Machine.execStopLine s
  | .holdLine => Sys2Proof.Machine.execHoldLine s
  | .resumeLine => Sys2Proof.Machine.execResumeLine s
  | .resetLine => Sys2Proof.Machine.execResetLine s
  | .setLineRate rate => Sys2Proof.Machine.execSetLineRate rate s
  | .survey => Sys2Proof.Machine.execSurvey s
  | .surveyResult => Sys2Proof.Machine.execSurveyResult s
  | .setPoll period missLimit => Sys2Proof.Machine.execSetPoll period missLimit s
  | .listNodes first => Sys2Proof.Machine.execListNodes first s
  | .nodeInfo slot => Sys2Proof.Machine.execNodeInfo slot s
  | .dirChanges => Sys2Proof.Machine.execDirChanges s
  | .pause slot => Sys2Proof.Machine.execPause slot s
  | .activate slot => Sys2Proof.Machine.execActivate slot s
  | .forget slot => Sys2Proof.Machine.execForget slot s
  | .openGate slot => Sys2Proof.Machine.execOpenGate slot s
  | .closeGate slot => Sys2Proof.Machine.execCloseGate slot s
  | .setGateMode slot mode => Sys2Proof.Machine.execSetGateMode slot mode s
  | .bind slot => Sys2Proof.Machine.execBind slot s
  | .unbind slot => Sys2Proof.Machine.execUnbind slot s
  | .listBindings => Sys2Proof.Machine.execListBindings s
  | .assignRing slot base size policy watermark => Sys2Proof.Machine.execAssignRing slot base size policy watermark s
  | .setRing slot policy watermark => Sys2Proof.Machine.execSetRing slot policy watermark s
  | .releaseRing slot => Sys2Proof.Machine.execReleaseRing slot s
  | .fetch slot max => Sys2Proof.Machine.execFetch slot max s
  | .peek slot skip max => Sys2Proof.Machine.execPeek slot skip max s
  | .flushRing slot => Sys2Proof.Machine.execFlushRing slot s
  | .ringInfo slot => Sys2Proof.Machine.execRingInfo slot s
  | .nodeRead tag slot item => Sys2Proof.Machine.execNodeRead tag slot item s
  | .nodeWrite tag slot item values => Sys2Proof.Machine.execNodeWrite tag slot item values s
  | .nodeDescribe tag slot => Sys2Proof.Machine.execNodeDescribe tag slot s
  | .nodeRelease tag slot => Sys2Proof.Machine.execNodeRelease tag slot s
  | .nodeTest tag slot pattern => Sys2Proof.Machine.execNodeTest tag slot pattern s
  | .takeResults max => Sys2Proof.Machine.execTakeResults max s
  | .cancel tag => Sys2Proof.Machine.execCancel tag s
  | .faultSummary => Sys2Proof.Machine.execFaultSummary s
  | .faultRecord kind => Sys2Proof.Machine.execFaultRecord kind s
  | .faultAck kind => Sys2Proof.Machine.execFaultAck kind s
  | .clearFault kind => Sys2Proof.Machine.execClearFault kind s
  | .setReaction kind reaction => Sys2Proof.Machine.execSetReaction kind reaction s
  | .setAckWindow window => Sys2Proof.Machine.execSetAckWindow window s
  | .injectFault kind slot detail => Sys2Proof.Machine.execInjectFault kind slot detail s
  | .alertDeadlineExpiry kind => Sys2Proof.Machine.execAlertDeadlineExpiry kind s
  | .commandSent missed => Sys2Proof.Machine.execCommandSent missed s
  | .answerWindowExpiry => Sys2Proof.Machine.execAnswerWindowExpiry s
  | .answerReceived chars => Sys2Proof.Machine.execAnswerReceived chars s
  | .twentyFirstCharacter => Sys2Proof.Machine.execTwentyFirstCharacter s
  | .collision => Sys2Proof.Machine.execCollision s
  | .spaceEnd => Sys2Proof.Machine.execSpaceEnd s
  | .keep => Sys2Proof.Machine.execKeep s
  | .haltRepeat => Sys2Proof.Machine.execHaltRepeat s
  | .lineStuck => Sys2Proof.Machine.execLineStuck s
  | .stuckEpisodeEnd => Sys2Proof.Machine.execStuckEpisodeEnd s
  | .cycleTimerExpiry => Sys2Proof.Machine.execCycleTimerExpiry s
  | .contestEnd lead slots => Sys2Proof.Machine.execContestEnd lead slots s
  | .answerStart => Sys2Proof.Machine.execAnswerStart s
  | .broadcastFrameEnd missed => Sys2Proof.Machine.execBroadcastFrameEnd missed s
  | .powerLoss => Sys2Proof.Machine.execPowerLoss s
  | .nodeIdleDrop node => Sys2Proof.Machine.execNodeIdleDrop node s
  | .nodeRestart node identity descriptor first payloads condition => Sys2Proof.Machine.execNodeRestart node identity descriptor first payloads condition s

end Sys2Proof.Machine
end

