-- ==== Sys2Proof/Safety.lean ====
section
/-! DEFINITION. What the manual says always holds of the part, as predicates over the state, and the conditions under which a command is taken. -/

namespace Sys2Proof.Machine

/-! ## Conditions under which a request is taken -/

/-- R164: a request in a good frame is judged: the start has ended and no reply is owed. -/
abbrev State.listens (s : State) : Prop := s.start.phase = .running ∧ s.link.reply = none

/-- R164: a request goes to its owner: the start has ended, no reply is owed, and the cause set is empty. -/
abbrev State.ready (s : State) : Prop := s.start.phase = .running ∧ s.link.reply = none ∧ s.start.causes = 0

/-- R146: no hold is left asked for between two commands (log entry 25). -/
abbrev State.noHoldAsked (s : State) : Prop := s.faults.holdAsked = false

/-- R162: the receiver hunts and its buffer is empty. -/
abbrev State.hunts (s : State) : Prop := s.link.rx = Receiver.idle

/-- A transaction is on the line in a phase, and it has not been aborted. -/
abbrev State.onLine (s : State) (t : Transaction) (p : LinePhase) : Prop :=
  s.start.phase = .running ∧ s.line.txn = some t ∧ t.phase = p ∧ t.aborted = none

/-- The line has nothing to begin: it allows no frame, or it is free and no send, repeat, request or poll waits for it. -/
abbrev State.lineRests (s : State) : Prop :=
  s.lineAllows = false ∨
    s.line.owed = [] ∧
      (s.line.state = .off ∨ s.line.state = .held ∧ s.line.haltWaiting = false ∨
        s.line.state = .running ∧ s.line.keepWaiting = false ∧ s.pool.inFlight = none ∧ s.pool.queued = [] ∧
          s.lowestDue = none)

/-- R64: from a state to the next, a survey has stopped: it is recorded ABORTED now with its counts kept, a describe phase
cut short counts as undescribed, the round state and the consecutive-failure count are discarded, and the SURVEY_DONE
latch is set (but where a clearing of it may still follow, log entry 10). -/
def surveyStopped (s t : State) : Prop :=
  t.survey =
      { record :=
          { s.survey.record with
            state := .aborted
            finish := some s.now
            undescribed :=
              s.survey.record.undescribed +
                match s.survey.round with
                | some r => if r.phase = .describe ∧ r.closing = none then 1 else 0
                | none => 0 }
        round := none
        failures := 0
        stopping := false } ∧
    (s.link.clearMayFollow = false → t.link.surveyDone = true)

/-- R34: the transaction on the line once it has been told to end: an addressed one in SEND, WAIT or RECEIVE is aborted,
in the phase it is in unless it was aborted before (log entry 20); a broadcast, a contest and what stands in SPACE are
left. -/
def toldToEnd (x : Transaction) : Transaction :=
  if x.phase = .wait ∨ x.phase = .receive ∨ (x.phase = .send ∧ x.frame.target.isSome = true) then
    { x with aborted := some (x.aborted.getD x.phase) }
  else x

/-- R110: the code, tag, slot and work of a pool request whose further parameters lie in their ranges. -/
def poolForm : Instr → Option (Byte × Byte × Byte × PoolWork)
  | .nodeRead tag slot item => some (0x40, tag, slot, .read item)
  | .nodeWrite tag slot item values =>
    if 1 ≤ values.length ∧ values.length ≤ 8 then some (0x41, tag, slot, .write item values) else none
  | .nodeDescribe tag slot => some (0x42, tag, slot, .describe)
  | .nodeRelease tag slot => some (0x43, tag, slot, .release)
  | .nodeTest tag slot pattern => (patternOf pattern).map fun p => (0x44, tag, slot, .test p)
  | _ => none

/-! ## Laws of the manual -/

/-- R17: while the line state is HELD, every entry's write gate is closed. -/
def gatesShutWhenHeld (s : State) : Prop := s.line.state = .held → ∀ i : Slot, (s.entry i).gateOpen = false

/-- R142: a record holds a first and a latest occurrence exactly when its count is above zero, a kind whose count is
zero is in alert state NONE, and the deadline is present exactly when the alert state is PENDING. -/
def recordLawful (r : FaultRecord) : Prop :=
  (r.first.isSome ↔ r.count ≠ 0) ∧ (r.latest.isSome ↔ r.count ≠ 0) ∧ (r.count = 0 → r.alert = .none) ∧
    (r.deadline.isSome ↔ r.alert = .pending)

/-- R142 for every kind. -/
def faultTableLawful (s : State) : Prop := ∀ k : FaultKind, recordLawful (s.record k)

/-- R109: at most 8 records in the pool, no two with one tag. -/
def poolLawful (s : State) : Prop := s.pool.size ≤ 8 ∧ s.pool.tags.Nodup

/-- R77: every slot in the due set belongs to an ACTIVE entry, and the set is empty unless the line state is RUNNING
or SURVEY. -/
def dueLawful (s : State) : Prop :=
  (∀ i : Slot, s.isDue i = true → (s.entry i).state = .active) ∧
    (s.line.state = .off ∨ s.line.state = .held → ∀ i : Slot, s.isDue i = false)

/-- R87: an entry's miss count never reaches the miss limit, and it is zero for every entry not in state ACTIVE. -/
def missesLawful (s : State) : Prop :=
  1 ≤ s.sched.missLimit ∧
    ∀ i : Slot, (s.entry i).missCount < s.sched.missLimit ∧
      ((s.entry i).state ≠ .active → (s.entry i).missCount = 0)

/-- R3: a descriptor within its ranges. -/
def descriptorLawful (d : Descriptor) : Prop := 1 ≤ d.reportLength ∧ d.reportLength ≤ 16 ∧ d.tags.length ≤ 4

/-- R1, R3: a FREE entry holds its FREE values, every other entry has an identity and a seated-at timestamp, and an
entry holds a descriptor, within its ranges, exactly in ACTIVE, PAUSED and LOST. -/
def entryLawful (e : Entry) : Prop :=
  (e.state = .free → e = Entry.blank) ∧ (e.state ≠ .free → e.identity.isSome ∧ e.seatedAt.isSome) ∧
    (e.descriptor.isSome ↔ e.state = .active ∨ e.state = .paused ∨ e.state = .lost) ∧
    (∀ d, e.descriptor = some d → descriptorLawful d)

/-- R1, R3 for every slot. -/
def directoryLawful (s : State) : Prop := ∀ i : Slot, entryLawful (s.entry i)

/-- R91, R92, R96: a ring lies within the store, begins at a multiple of its size, and holds no more bytes than its
size, and none where it holds no record. -/
def ringLawful (r : Ring) : Prop :=
  r.size ∈ ringSizes ∧ r.base % r.size = 0 ∧ r.base + r.size ≤ 8192 ∧ r.watermark ≤ r.size ∧
    r.oldest < r.size ∧ r.used ≤ r.size ∧ (r.count = 0 → r.used = 0)

/-- R92: every ring is lawful and belongs to an entry that is not FREE, and no two rings overlap. -/
def ringsLawful (s : State) : Prop :=
  ∀ (i : Slot) (r : Ring), s.ring i = some r →
    ringLawful r ∧ (s.entry i).state ≠ .free ∧ s.overlapsOther i r.base r.size = false

/-- R2: no two entries that are not FREE hold one identity; and in the SEAT phase of a round the chosen entry holds the
winning identity or is FREE, and no other entry holds it (R54). -/
def identitiesLawful (s : State) : Prop :=
  (∀ i j : Slot, (s.entry i).state ≠ .free → (s.entry j).state ≠ .free →
      (s.entry i).identity = (s.entry j).identity → i = j) ∧
    ∀ (r : Round) (i : Slot) (x : Identity) (check : Byte),
      s.survey.round = some r → r.phase = .seat → r.chosen = some i → r.reading = some (.clean x check) →
        ((s.entry i).state ≠ .free → (s.entry i).identity = some x) ∧
          ∀ j : Slot, j ≠ i → (s.entry j).state ≠ .free → (s.entry j).identity ≠ some x

/-- R18: no two bindings with one identity; the list holds at most one for each slot by its form. -/
def bindingsLawful (s : State) : Prop :=
  ∀ (i j : Slot) (x : Identity), cell s.dir.bindings i = some x → cell s.dir.bindings j = some x → i = j

/-- R74, R76, R127: the cycle timer and the silence timer run exactly while the line state is RUNNING; a survey runs
exactly while it is SURVEY or the survey is still to stop at its frame boundary, and only then is there a round (R49,
R51, R63); a survey is still to stop only while a frame, an answer or a contest of its own is on the line; the HALT
repeat timer runs only in HELD (R37). -/
def lineLawful (s : State) : Prop :=
  (s.sched.cycle.isSome ↔ s.line.state = .running) ∧ (s.line.silence = true ↔ s.line.state = .running) ∧
    (s.survey.record.state = .running ↔ s.line.state = .survey ∨ s.survey.stopping = true) ∧
    (s.survey.round.isSome → s.line.state = .survey ∨ s.survey.stopping = true) ∧
    (s.survey.stopping = true → s.line.state ≠ .survey ∧ s.surveyFrameRuns = true) ∧
    (s.line.haltTimer = true → s.line.state = .held)

/-- R59, R110: the frame of a pool attempt that is not aborted and whose outcome is to come is that of the request in
flight, and such a frame of the survey in the describe phase of its round is DESC to the chosen slot. -/
def workLawful (s : State) : Prop :=
  ∀ t, s.line.txn = some t → t.aborted = none → t.phase = .send ∨ t.phase = .wait ∨ t.phase = .receive →
    (t.user = .pool → ∃ r, s.pool.inFlight = some r ∧ t.frame = requestFrameOf r) ∧
    (∀ r, t.user = .survey → s.survey.round = some r → r.phase = .describe →
      ∃ i, r.chosen = some i ∧ t.frame = addressed .desc i)

/-- R128: behind a send that has begun, no two sends of one command, and no HALT beside a GO; only the head has begun. -/
def owedLawful (s : State) : Prop :=
  (∀ o ∈ s.line.owed.tail, o.framesBegun = 0) ∧
    ((s.line.owed.filter fun o => decide (o.framesBegun = 0)).map fun o =>
      if o.command = .go then OwedCommand.halt else o.command).Nodup

/-- R91: the canonical form of report memory. -/
def memoryLawful (s : State) : Prop := Memory.wf s.store.memory = true

/-- R97: the store offsets that `n` bytes from position `k` of a ring take. -/
def ringSpan (r : Ring) (k n a : Nat) : Prop := ∃ j, j < n ∧ a = ringOffset r (k + j)

/-- The values a full reset gives every block, whatever the settings image gives (R24, R71, R72, R108, R126, R138,
R156, R169, R172). -/
structure FullReset (s : State) : Prop where
  entries : s.dir.entries = allCells 32 Entry.blank
  changes : s.dir.changes = allCells 32 false
  survey : s.survey = { record := SurveyRecord.blank, round := none, failures := 0, stopping := false }
  lineOff : s.line.state = .off
  released : s.line.txn = none
  nothingOwed : s.line.owed = []
  timersStopped : s.line.silence = false ∧ s.line.haltTimer = false ∧ s.wireHeld = false
  lastGrant : s.line.lastGrant = .pool
  noCycle : s.sched.cycle = none
  noneDue : s.sched.due = allCells 32 false
  lateCycles : s.sched.lateCycles = 0
  rings : s.store.rings = allCells 32 none
  pool : s.pool = { queued := [], inFlight := none, completed := [] }
  records : s.faults.records = allCells 10 FaultRecord.blank
  hunts : s.link.rx = Receiver.idle
  noReply : s.link.reply = none
  counts : s.link.framing = 0 ∧ s.link.timeout = 0 ∧ s.link.check = 0
  flags : s.link.overrun = false ∧ s.link.surveyDone = false ∧ s.link.faultLatch = false
  store : s.settings.store = .idle ∧ s.settings.lastResult = .none

/-- R170, R171: the working values that the stored settings give are those of an image. -/
structure SettingsLoaded (im : SettingsImage) (s : State) : Prop where
  linkRate : s.link.rate = im.linkRate
  lineRate : s.line.rate = im.lineRate
  poll : s.sched.period = im.pollPeriod ∧ s.sched.missLimit = im.missLimit
  window : s.faults.ackWindow = im.ackWindow
  reactions : ∀ k : FaultKind, reactionOf (im.reactions.getD k.index.val 0x00) = some (s.reaction k)
  enables : s.link.enables = BitVec.ofNat 5 im.enables.toNat
  bindings : ∀ (i : Slot) (x : Identity),
    cell s.dir.bindings i = some x ↔ { slot := i.val + 1, identity := x } ∈ im.bindings
  label : s.settings.label.toList = im.label

end Sys2Proof.Machine
end

