-- ==== Sys2Proof/Certificates/Slice0/Obligations.lean ====
section
/-! DEFINITION. The statements about the part, for the provers. Nothing is proved here. -/

open Sys2Proof Sys2Proof.Machine

/-! ## Steps, frames and dispatch -/

/-- A step with a command at the front of the queue is that command on the state with the rest of the queue. -/
def Obligations.StepTakesTheFrontCommand : Prop :=
  ∀ (c : Instr) (rest : List Instr) (s : State),
    step { s with pending := c :: rest } = exec c { s with pending := rest }

/-- With no command waiting a millisecond passes (the model's choice, log entry 3): nothing without a supply or under
RESET#; the start delay counts down and ends (R176); a deadline that is reached expires, then a cycle that has run out
ends, and else the clock and the cycle timer count (R179, R72), and the receiver, where it waits for RXD to be high, counts
the whole bit times of the millisecond (R157; that RXD is idle in it is the model's choice, log entry 38). -/
def Obligations.EmptyQueueTicks : Prop :=
  ∀ s : State, s.pending = [] →
    (s.start.phase = .off ∨ s.start.phase = .held → step s = .next s) ∧
    (s.start.phase = .delay 0 → step s = .next { s with start := { s.start with phase := .running, clock := 0 } }) ∧
    (∀ n, s.start.phase = .delay (n + 1) → step s = .next { s with start := { s.start with phase := .delay n } }) ∧
    (∀ k, s.start.phase = .running → s.firstExpired = some k → step s = exec (.alertDeadlineExpiry k) s) ∧
    (s.start.phase = .running → s.firstExpired = none → cycleDue s = true → step s = exec .cycleTimerExpiry s) ∧
    (s.start.phase = .running → s.firstExpired = none → cycleDue s = false →
      step s = .next
        { s with
          start := { s.start with clock := s.start.clock + 1 }
          link := { s.link with rx := { s.link.rx with highDue := s.link.rx.highDue - s.link.rate / 1000 } }
          sched :=
            { s.sched with cycle := s.sched.cycle.map fun c => { c with remaining := c.remaining - 1 } } })

/-- Every command answers a next state and leaves the commands behind it in the queue as they stand. For an event whose
condition does not stand, and for a timer's expiry that is commanded before its time, the manual says nothing: that such
a command answers a next state rather than stopping is the model's choice (log entry 5). -/
def Obligations.EveryCommandCompletes : Prop :=
  ∀ (c : Instr) (s : State), ∃ t, exec c s = .next t ∧ t.pending = s.pending

/-- The body of every well-formed request decodes to that request. -/
def Obligations.RequestBodiesDecode : Prop :=
  ∀ (i : Instr) (body : List Byte), i.wellFormed = true → encodeBody i = some body → decodeBody body = .ok i

/-- A frame with a good check that holds a request's body, met in HUNT while no reply is owed, is that request. That a
request row is the request arriving in such a frame is the model's choice (log entry 6). -/
def Obligations.GoodFrameIsItsRequest : Prop :=
  ∀ (i : Instr) (body : List Byte) (s : State), i.wellFormed = true → encodeBody i = some body → s.listens → s.hunts →
    exec (.requestFrame (frameTail body)) s = exec i s

/-- R161: a complete frame whose CRC-16 does not match gets the reject reply, raises the check error count and changes
nothing else; a frame that follows while the reject reply is owed is an overrun frame. -/
def Obligations.BadCheckIsRejected : Prop :=
  ∀ (body : List Byte) (high low : Byte) (s : State), 1 ≤ body.length → body.length ≤ 240 → s.listens → s.hunts →
    crc16 (BitVec.ofNat 8 body.length :: body) ≠ word16 high low →
      ∃ t, exec (.requestFrame (BitVec.ofNat 8 body.length :: body ++ [high, low])) s = .next t ∧
        t = { s with link := { s.link with check := satAdd s.link.check 1, reply := some [0xFF, 0x01] } } ∧
        ∀ chars, wholeFrame chars = true → exec (.requestFrame chars) t = .next t.overrunning

/-- A frame with a good check whose body is no request is answered by the host link unit: UNKNOWN_REQUEST where its
code is not in the table, BAD_LENGTH where it is. While the cause set is not empty, every request but STATUS, IDENTIFY,
READ_CAUSES and CLEAR_CAUSES is answered STARTING and changes nothing else. A request that arrives while a reply is
owed changes nothing but the overrun flag, and one that arrives before the start has ended changes nothing. -/
def Obligations.UnreadableAndUntimelyRequests : Prop :=
  (∀ (code : Byte) (params : List Byte) (status : Status) (s : State), params.length ≤ 239 → s.listens → s.hunts →
      decodeBody (code :: params) = .error status →
        exec (.requestFrame (frameTail (code :: params))) s = .next (s.replied code status []) ∧
          status = (if code ∈ requestRows.map (fun row => row.1) then .badLength else .unknownRequest)) ∧
  (∀ (i : Instr) (code : Byte) (params : List Byte) (s : State), i.wellFormed = true →
      encodeBody i = some (code :: params) → s.listens → s.start.causes ≠ 0 →
        i ≠ .status → i ≠ .identify → i ≠ .readCauses → i ≠ .clearCauses →
          exec i s = .next (s.replied code .starting [])) ∧
  (∀ (i : Instr) (body : List Byte) (s : State), encodeBody i = some body →
      (s.start.phase = .running → s.link.reply.isSome = true → exec i s = .next s.overrunning) ∧
        (s.start.phase ≠ .running → exec i s = .next s))

/-- An overrun frame sets the overrun flag and is followed by its LEN to its end; its LEN and its gaps are judged, and
nothing else of it. With no reply owed, a framing error, a LEN outside 1 to 240 and a gap each raise their own count by
one, discard the frame, and change nothing else. A low level on RXD longer than one character counts as one framing
error, whether it begins with the start bit of the broken character or later in it, and until RXD has been high for one
full character time no character is taken and none counted, but each further such low level is, one framing error each;
the bit times for which RXD has been high last count, and a gap of ten character times ends the wait with no count. A
character is a low start bit, eight data bits, least significant first, high for 1, and a high stop bit; TXD sends the
characters of a reply back to back and is high when idle. At the end of a reply nothing is owed, and a link rate that
waits takes effect with the receiver in HUNT (for SURVEY's reply, SurveyBegins). The operands of the frame events, the
low level that is waited out, and the mark of an open latch clearing, are the model's (log entries 7, 38 and 10). -/
def Obligations.FrameEventsAreTaken : Prop :=
  (∀ s : State, s.start.phase = .running → s.link.reply.isSome = true → s.hunts →
      (∀ chars, wholeFrame chars = true → exec (.overrunFrame chars) s = .next s.overrunning) ∧
      (∀ len : Byte, (len = 0 ∨ 241 ≤ len.toNat) →
        exec (.frameDiscardedByLen len) s =
          .next { s with link := { s.link with overrun := true, framing := satAdd s.link.framing 1 } }) ∧
      (∀ chars, partialFrame chars = true →
        exec (.timeoutError chars) s =
          .next { s with link := { s.link with overrun := true, timeout := satAdd s.link.timeout 1 } })) ∧
  (∀ s : State, s.listens → s.hunts →
      (∀ char : BrokenChar, (∀ chars, char.within = some chars → partialFrame chars = true) →
        exec (.framingError char) s =
          .next
            { s with
              link :=
                { s.link with
                  framing := satAdd s.link.framing (1 + laterLongLows char.levels)
                  rx := { Receiver.idle with highDue := highDueAfter char.levels } } }) ∧
      (∀ len : Byte, (len = 0 ∨ 241 ≤ len.toNat) →
        exec (.frameDiscardedByLen len) s =
          .next { s with link := { s.link with framing := satAdd s.link.framing 1 } }) ∧
      (∀ chars, partialFrame chars = true →
        exec (.timeoutError chars) s = .next { s with link := { s.link with timeout := satAdd s.link.timeout 1 } })) ∧
  (∀ low high : Nat,
      highDueAfter (List.replicate low .low ++ List.replicate high .high) = if 10 < low then 10 - high else 0) ∧
  (∀ (front : List PinLevel) (before after high : Nat), 1 ≤ before → front.length + 1 + before = 10 →
      highDueAfter (front ++ .high :: List.replicate (before + after) .low ++ List.replicate high .high) =
        if 10 < before + after then 10 - high else 0) ∧
  (∀ levels : List PinLevel, brokenLevels levels = true →
      highDueAfter levels =
        if longLow levels then 10 - (levels.reverse.takeWhile fun l => decide (l = .high)).length else 0) ∧
  (∀ low high : Nat, longLows 0 (List.replicate low .low ++ List.replicate high .high) = if 10 < low then 1 else 0) ∧
  (∀ front rest : List PinLevel, longLows 0 (front ++ .high :: rest) = longLows 0 front + longLows 0 rest) ∧
  (∀ levels : List PinLevel, brokenLevels levels = true →
      longLows 0 levels = (if longLow levels then 1 else 0) + laterLongLows levels ∧
        (longLow levels = false → laterLongLows levels = 0)) ∧
  (∀ s : State, s.start.phase = .running → 1 ≤ s.link.rx.highDue → s.link.rx.highDue ≤ 10 →
      (∀ chars, ∃ d, 1 ≤ d ∧ d ≤ 10 ∧ exec (.requestFrame chars) s = .next (s.setRx { s.link.rx with highDue := d })) ∧
      (∀ char : BrokenChar, brokenLevels char.levels = true →
        exec (.framingError char) s =
          .next
            (s.setLink
              { s.link with
                framing := satAdd s.link.framing (longLows 0 char.levels)
                rx :=
                  { s.link.rx with
                    highDue := 10 - (char.levels.reverse.takeWhile fun l => decide (l = .high)).length } })) ∧
      (∀ chars, s.link.rx.phase = .hunt →
        exec (.timeoutError chars) s = .next (s.setRx { s.link.rx with highDue := 0 })) ∧
      (∀ n, s.link.rx.highDue ≤ n * (s.link.rate / 1000) → (s.passTime n).link.rx.highDue = 0)) ∧
  (∀ b : Byte,
      (linkCharLevels b).length = 10 ∧ (linkCharLevels b)[0]? = some .low ∧ (linkCharLevels b)[9]? = some .high ∧
        (∀ k, k < 8 → (linkCharLevels b)[k + 1]? = some (if b.getLsbD k then .high else .low)) ∧
        readLinkChar (linkCharLevels b) = some b) ∧
  (∀ levels : List PinLevel, levels.getLast? = some .low → readLinkChar levels = none) ∧
  (∀ s : State,
      (∀ k, s.link.reply = none → s.txdLevel k = .high) ∧
      (∀ body c b bit, s.link.reply = some body → (linkFrame body)[c]? = some b → bit < 10 →
        s.txdLevel (10 * c + bit) = (linkCharLevels b).getD bit .high) ∧
      (∀ body k, s.link.reply = some body → 10 * (linkFrame body).length ≤ k → s.txdLevel k = .high)) ∧
  (∀ s : State, s.start.phase = .running → s.link.reply.isSome = true → s.link.restartDue = false →
    s.surveyReplyOwed = false →
      (s.link.rateChange = none →
        exec .replyEnd s = .next { s with link := { s.link with reply := none, clearMayFollow := false } }) ∧
      (∀ rate, s.link.rateChange = some rate →
        exec .replyEnd s =
          .next
            { s with
              link :=
                { s.link with
                  reply := none, clearMayFollow := false, rateChange := none, rate := rate
                  rx := { Receiver.idle with highDue := s.link.rx.highDue } } }))

/-! ## Link, settings and start requests -/

/-- STATUS clears the overrun flag and nothing else; its reply has 25 bytes of results, formed before the clearing.
IDENTIFY and READ_CAUSES change nothing but the reply; CLEAR_CAUSES empties the cause set; all three are answered
whatever the cause set holds. -/
def Obligations.StatusAndCausesAreReported : Prop :=
  (∀ s : State, s.listens →
      exec .status s = .next ((s.setLink { s.link with overrun := false }).replied 0x01 .ok (statusBytes s)) ∧
        (statusBytes s).length = 25) ∧
  (∀ s : State, s.listens →
      exec .readCauses s = .next (s.replied 0x03 .ok [BitVec.ofNat 8 s.start.causes.toNat]) ∧
      exec .clearCauses s = .next ((s.setStart { s.start with causes := 0 }).replied 0x04 .ok []) ∧
      exec .identify s =
        .next
          (s.replied 0x02 .ok
            ([0x0A, 0x17, 0x0F, 0x32, 0x01] ++ bigEndian 8 Config.factoryNumber.toNat ++ s.settings.label.toList)))

/-- RESTART, SET_LINK_RATE and SET_ATTENTION, on every value and in every store state. SET_LABEL takes any 16 bytes.
STORE_SETTINGS takes the snapshot, which holds every working value of the settings with a valid pattern, makes the
stored pattern invalid and begins the write, or is answered BUSY while one runs. The three phases of the write end, and
both ends of its readback. The image's values during WRITE stay as they were, its pattern invalid, and what READBACK
read is the command's operand (the model's choices, log entries 26 and 14). -/
def Obligations.LinkAndSettingsRequestsDecide : Prop :=
  (∀ s : State, s.ready →
      (s.settings.store = .idle → exec .restart s = .next ((s.setLink { s.link with restartDue := true }).replied 0x05 .ok [])) ∧
      (s.settings.store ≠ .idle → exec .restart s = .next (s.replied 0x05 .busy [])) ∧
      (∀ rate, linkRateOf rate = none → exec (.setLinkRate rate) s = .next (s.replied 0x08 .badValue [])) ∧
      (∀ rate, linkRateOf rate = some s.link.rate → exec (.setLinkRate rate) s = .next (s.replied 0x08 .ok [])) ∧
      (∀ rate r, linkRateOf rate = some r → r ≠ s.link.rate →
        exec (.setLinkRate rate) s = .next ((s.setLink { s.link with rateChange := some r }).replied 0x08 .ok [])) ∧
      (∀ enables : BitVec 5,
        exec (.setAttention (enables.zeroExtend 8)) s = .next ((s.setLink { s.link with enables := enables }).replied 0x09 .ok [])) ∧
      (∀ b : Byte, 32 ≤ b.toNat → exec (.setAttention b) s = .next (s.replied 0x09 .badValue []))) ∧
  (∀ s : State, s.ready →
      (∀ label : Vector Byte 16,
        exec (.setLabel label.toList) s = .next ((s.setSettings { s.settings with label := label }).replied 0x07 .ok [])) ∧
      (s.settings.store = .idle →
        exec .storeSettings s =
          .next
            ((s.setSettings
              { s.settings with
                store := .writing .write (snapshot s)
                image := { s.settings.image with patternValid := false } }).replied 0x06 .ok [])) ∧
      (s.settings.store ≠ .idle → exec .storeSettings s = .next (s.replied 0x06 .busy []))) ∧
  (∀ s : State, SettingsLoaded (snapshot s) s ∧ (snapshot s).patternValid = true) ∧
  (∀ (s : State) (snap : SettingsImage), s.start.phase = .running →
        (s.settings.store = .writing .write snap →
          exec .writePhaseEnd s =
            .next
              (s.setSettings { s.settings with store := .writing .mark snap, image := { snap with patternValid := false } })) ∧
        (s.settings.store = .writing .mark snap →
          exec .markPhaseEnd s =
            .next
              (s.setSettings
                { s.settings with
                  store := .writing .readback snap
                  image := { s.settings.image with patternValid := true } })) ∧
        (s.settings.store = .writing .readback snap →
          exec (.readbackEnd { snap with patternValid := true }) s =
            .next
              (s.setSettings
                { s.settings with
                  store := .idle
                  lastResult := .ok
                  defaulted := false
                  image := { snap with patternValid := true } })) ∧
        (s.settings.store = .writing .readback snap → ∀ found, found ≠ { snap with patternValid := true } →
          exec (.readbackEnd found) s =
            .next
              (s.setSettings
                { s.settings with store := .idle, lastResult := .failed, image := { found with patternValid := false } })))

/-! ## Starts -/

/-- A power-on with RESET# high begins the start delay with the cause set {POWER}; one with RESET# low holds the start,
and whether PIN joins the set is left open (log entry 12). A low level on RESET# adds PIN and holds the start; its
return begins the delay; without a supply, or with no start held, they are noted and nothing else. An accepted
RESTART's start adds REQUEST. Every block takes its full-reset value, and the nodes stand as they did: they keep their
slots, and that those of a contest that is cut off stay in it, with no loser withdrawn, is the model's choice (log
entry 39). The end of the start delay starts the clock at 0 and changes nothing else; the loss of the supply stops
every block and empties the cause set. The loss of the supply, a low level on RESET# and a power-on cut a settings
write short: in WRITE and in READBACK the image stays as it stood, its pattern with it; that its values stay too, in
WRITE, is the model's choice (log entry 26). In MARK its values stay and the pattern is left open (log entry 9). The
empty cause set and the clock at 0 of a part without a supply or held in reset, and the start that the end of RESTART's
reply is, are the model's choices (log entries 22 and 24), and so are the blocks' values there, a power-on of a part
that has its supply (log entry 23), and a START_DELAY_END before the delay has been counted out (log entry 5). -/
def Obligations.StartsBeginAndEnd : Prop :=
  (∀ s : State,
      (s.start.pinLow = false → ∃ t, exec .powerOn s = .next t ∧ FullReset t ∧ t.nodes = s.nodes ∧
        t.start = { phase := .delay 50, pinLow := false, causes := 0b001, clock := 0 }) ∧
      (s.start.pinLow = true → ∃ t, exec .powerOn s = .next t ∧ FullReset t ∧ t.nodes = s.nodes ∧
        t.start.phase = .held ∧ t.start.pinLow = true ∧ t.start.clock = 0 ∧
        (t.start.causes = 0b001 ∨ t.start.causes = 0b011)) ∧
      (s.start.phase = .off →
        exec .resetPinLow s = .next { s with start := { s.start with pinLow := true } }) ∧
      (s.start.phase ≠ .held →
        exec .resetPinHigh s = .next { s with start := { s.start with pinLow := false } }) ∧
      (s.start.phase ≠ .off → ∃ t, exec .resetPinLow s = .next t ∧ FullReset t ∧ t.nodes = s.nodes ∧
        t.start = { phase := .held, pinLow := true, causes := s.start.causes ||| 0b010, clock := 0 }) ∧
      (s.start.phase = .held → ∃ t, exec .resetPinHigh s = .next t ∧ FullReset t ∧ t.nodes = s.nodes ∧
        t.start = { phase := .delay 50, pinLow := false, causes := s.start.causes, clock := 0 }) ∧
      (s.start.phase = .running → s.start.pinLow = false → s.link.restartDue = true → s.link.reply.isSome = true →
        ∃ t, exec .requestedRestart s = .next t ∧ FullReset t ∧ t.nodes = s.nodes ∧ exec .replyEnd s = .next t ∧
          t.start = { phase := .delay 50, pinLow := false, causes := s.start.causes ||| 0b100, clock := 0 })) ∧
  (∀ s : State,
      (∀ n, s.start.phase = .delay n →
        exec .startDelayEnd s = .next { s with start := { s.start with phase := .running, clock := 0 } }) ∧
      (∃ t, exec .powerLoss s = .next t ∧ FullReset t ∧ t.nodes = s.nodes ∧
        t.start = { phase := .off, pinLow := s.start.pinLow, causes := 0, clock := 0 }) ∧
      (∀ (c : Instr) (t : State), c = .powerLoss ∨ c = .powerOn ∨ c = .resetPinLow ∧ s.start.phase ≠ .off →
        exec c s = .next t →
          ((∀ snap, s.settings.store ≠ .writing .mark snap) → t.settings.image = s.settings.image) ∧
          (∀ snap, s.settings.store = .writing .mark snap →
            ∃ valid, t.settings.image = { s.settings.image with patternValid := valid })))

/-- At every start (power-on, the return of RESET#, the start of an accepted RESTART) the settings image is loaded: a
whole image gives every working value, any other gives every default and sets the settings-defaulted flag; the image is
left as it is. That the start of RESTART is the end of its reply is the model's choice (log entry 22). -/
def Obligations.StartsLoadTheSettings : Prop :=
  ∀ (c : Instr) (s t : State), s.settings.store = .idle →
    c = .powerOn ∧ s.start.pinLow = false ∨ c = .resetPinHigh ∧ s.start.phase = .held ∨
      (c = .requestedRestart ∨ c = .replyEnd) ∧ s.start.phase = .running ∧ s.start.pinLow = false ∧
        s.link.restartDue = true ∧ s.link.reply.isSome = true →
    exec c s = .next t →
      t.start.phase = .delay 50 ∧ t.settings.image = s.settings.image ∧
      (imageWhole s.settings.image = true → SettingsLoaded s.settings.image t ∧ t.settings.defaulted = false) ∧
      (imageWhole s.settings.image = false → SettingsLoaded blankImage t ∧ t.settings.defaulted = true)

/-! ## The line state -/

/-- START_LINE and RESUME_LINE in every line state. From OFF with no alert the line runs: a cycle start without a late
count, the silence timer runs, and every ACTIVE slot is due or its poll has been granted. From HELD with no alert a GO is
owed and the line runs. -/
def Obligations.StartAndResumeDecide : Prop :=
  ∀ s : State, s.ready → s.noHoldAsked →
    (s.line.state = .off → s.alertPin = true → exec .startLine s = .next (s.replied 0x10 .alertPending [])) ∧
    (s.line.state = .running ∨ s.line.state = .survey → exec .startLine s = .next (s.replied 0x10 .ok [])) ∧
    (s.line.state = .held → exec .startLine s = .next (s.replied 0x10 .lineHeld [])) ∧
    (s.line.state = .off → s.alertPin = false → ∃ t, exec .startLine s = .next t ∧
      t.line.state = .running ∧ t.line.silence = true ∧ t.line.haltTimer = false ∧
      t.sched.cycle = some { length := s.sched.period, remaining := s.sched.period } ∧
      t.sched.lateCycles = s.sched.lateCycles ∧
      (∀ i : Slot, (s.entry i).state = .active →
        t.isDue i = true ∨ ∃ x, t.line.txn = some x ∧ x.user = .poll ∧ x.frame.target = some i) ∧
      t.link = { s.link with reply := some [0x90, 0x00] } ∧
      t.start = s.start ∧ t.settings = s.settings ∧ t.dir = s.dir ∧ t.survey = s.survey ∧ t.store = s.store ∧
      t.faults = s.faults ∧ t.nodes = s.nodes) ∧
    (s.line.state ≠ .held → exec .resumeLine s = .next (s.replied 0x13 .wrongState [])) ∧
    (s.line.state = .held → s.alertPin = true → exec .resumeLine s = .next (s.replied 0x13 .alertPending [])) ∧
    (s.line.state = .held → s.alertPin = false → ∃ t, exec .resumeLine s = .next t ∧
      t.line.state = .running ∧ t.line.silence = true ∧ t.line.haltTimer = false ∧
      t.line.owed.getLast?.map (fun o => o.command) = some .go ∧
      t.sched.cycle = some { length := s.sched.period, remaining := s.sched.period } ∧
      t.sched.lateCycles = s.sched.lateCycles ∧ (∀ i : Slot, (s.entry i).state = .active → t.isDue i = true) ∧
      t.link = { s.link with reply := some [0x93, 0x00] } ∧
      t.start = s.start ∧ t.settings = s.settings ∧ t.dir = s.dir ∧ t.survey = s.survey ∧ t.store = s.store ∧
      t.pool = s.pool ∧ t.faults = s.faults ∧ t.nodes = s.nodes)

/-- STOP_LINE in every line state. From RUNNING and SURVEY the line goes OFF: polling stops, the transaction on the line is
aborted, the request in flight completes ABORTED, and the queued ones wait; a survey with a frame, an answer or a contest
on the line is told to stop, one without stops now, recorded ABORTED, and a CLOSE is owed. Which moment is the survey's
next frame boundary, and that a describe phase cut short does not add its slot to the change set again, are the model's
choices (log entries 15 and 35); the latch is open where its clearing may follow (log entry 10). -/
def Obligations.StopLineDecides : Prop :=
  ∀ s : State, s.ready → s.noHoldAsked →
    (s.line.state = .off → exec .stopLine s = .next (s.replied 0x11 .ok [])) ∧
    (s.line.state = .held → exec .stopLine s = .next (s.replied 0x11 .lineHeld [])) ∧
    (s.line.state = .running ∨ s.line.state = .survey → ∃ t, exec .stopLine s = .next t ∧
      t.line.state = .off ∧ t.line.silence = false ∧ t.sched.cycle = none ∧ (∀ i : Slot, t.isDue i = false) ∧
      (∀ x, s.line.txn = some x → t.line.txn = some (toldToEnd x)) ∧
      t.pool.queued = s.pool.queued ∧ t.pool.inFlight = none ∧
      t.pool.completed = s.pool.completed ++
        (s.pool.inFlight.toList.map fun r => { request := r, outcome := .aborted, data := [] }) ∧
      (s.line.state = .survey → s.surveyFrameRuns = true →
        t.survey = { s.survey with stopping := true } ∧ t.link.surveyDone = s.link.surveyDone) ∧
      (s.line.state = .survey → s.surveyFrameRuns = false → surveyStopped s t) ∧
      (s.line.state = .survey → t.line.owed.getLast?.map (fun o => o.command) = some .close) ∧
      (s.line.state = .running → t.survey = s.survey ∧ t.link.surveyDone = s.link.surveyDone) ∧
      t.link = { s.link with reply := some [0x91, 0x00], surveyDone := t.link.surveyDone } ∧
      t.start = s.start ∧ t.settings = s.settings ∧ t.dir = s.dir ∧ t.store = s.store ∧ t.faults = s.faults ∧
      t.nodes = s.nodes)

/-- HOLD_LINE in every line state. Outside HELD it is a hold entry: the transaction on the line is aborted, the request in
flight and the queued ones complete ABORTED in order, every gate closes, polling stops, a HALT is owed, the line is HELD;
a survey with a frame, an answer or a contest on the line is told to stop, and one without stops now, recorded ABORTED.
Which moment is the survey's next frame boundary, and that a describe phase cut short does not add its slot to the change
set again, are the model's choices (log entries 15 and 35); the latch is open where its clearing may follow (log entry
10). -/
def Obligations.HoldLineEntersHold : Prop :=
  ∀ s : State, s.ready → s.noHoldAsked →
    (s.line.state = .held → exec .holdLine s = .next (s.replied 0x12 .ok [])) ∧
    (s.line.state ≠ .held → ∃ t, exec .holdLine s = .next t ∧
      t.line.state = .held ∧ t.line.silence = false ∧ t.sched.cycle = none ∧ (∀ i : Slot, t.isDue i = false) ∧
      (∀ i : Slot, t.entry i = { s.entry i with gateOpen := false }) ∧
      (∀ x, s.line.txn = some x → t.line.txn = some (toldToEnd x)) ∧
      t.pool.queued = [] ∧ t.pool.inFlight = none ∧
      t.pool.completed = s.pool.completed ++
        ((s.pool.inFlight.toList ++ s.pool.queued).map fun r => { request := r, outcome := .aborted, data := [] }) ∧
      t.line.owed.getLast?.map (fun o => o.command) = some .halt ∧
      (s.line.state = .survey → s.surveyFrameRuns = true →
        t.survey = { s.survey with stopping := true } ∧ t.link.surveyDone = s.link.surveyDone) ∧
      (s.line.state = .survey → s.surveyFrameRuns = false → surveyStopped s t) ∧
      (s.line.state ≠ .survey → t.survey = s.survey ∧ t.link.surveyDone = s.link.surveyDone) ∧
      t.link = { s.link with reply := some [0x92, 0x00], surveyDone := t.link.surveyDone } ∧
      t.dir.bindings = s.dir.bindings ∧ t.dir.changes = s.dir.changes ∧ t.start = s.start ∧ t.settings = s.settings ∧
      t.store = s.store ∧ t.faults = s.faults ∧ t.nodes = s.nodes)

/-- RESET_LINE is answered OK in every line state: the transaction on the line is aborted, pool work completes ABORTED,
polling stops, an UNSEAT_ALL is owed, the line is OFF; the entries, the rings, the fault table and the bindings stand as
they were; a survey with a frame, an answer or a contest on the line is told to stop, one without stops now, recorded
ABORTED, and the round state and the consecutive-failure count are cleared. Which moment is the survey's next frame
boundary, and that a describe phase cut short does not add its slot to the change set again, are the model's choices (log
entries 15 and 35); the latch is open where its clearing may follow (log entry 10). -/
def Obligations.ResetLineClearsTheLine : Prop :=
  ∀ s : State, s.ready → s.noHoldAsked → ∃ t, exec .resetLine s = .next t ∧
      t.line.state = .off ∧ t.line.silence = false ∧ t.line.haltTimer = false ∧ t.sched.cycle = none ∧
      (∀ i : Slot, t.isDue i = false) ∧ (∀ x, s.line.txn = some x → t.line.txn = some (toldToEnd x)) ∧
      t.pool.queued = [] ∧ t.pool.inFlight = none ∧
      t.pool.completed = s.pool.completed ++
        ((s.pool.inFlight.toList ++ s.pool.queued).map fun r => { request := r, outcome := .aborted, data := [] }) ∧
      t.line.owed.getLast?.map (fun o => o.command) = some .unseatAll ∧
      (s.line.state = .survey → s.surveyFrameRuns = true →
        t.survey = { s.survey with stopping := true } ∧ t.link.surveyDone = s.link.surveyDone) ∧
      (s.line.state = .survey → s.surveyFrameRuns = false → surveyStopped s t) ∧
      (s.line.state ≠ .survey →
        t.survey = (if s.survey.stopping then s.survey else { s.survey with round := none, failures := 0 }) ∧
          t.link.surveyDone = s.link.surveyDone) ∧
      t.link = { s.link with reply := some [0x94, 0x00], surveyDone := t.link.surveyDone } ∧
      t.start = s.start ∧ t.settings = s.settings ∧ t.dir = s.dir ∧ t.store = s.store ∧ t.faults = s.faults ∧
      t.nodes = s.nodes

/-- SET_LINE_RATE checks the rate, then the line state. SURVEY_RESULT returns the record, each field in its place of the 16
bytes, and clears the latch; its mark that the clearing may still follow the reply is the model's (log entry 10).
SET_POLL checks both ranges and then writes both values and zeroes every miss count. -/
def Obligations.LineRateSurveyResultAndSetPoll : Prop :=
  (∀ (rate : Byte) (s : State), s.ready →
      (rate.toNat ∉ [10, 20, 40] → exec (.setLineRate rate) s = .next (s.replied 0x15 .badValue [])) ∧
      (rate.toNat ∈ [10, 20, 40] → s.line.state ≠ .off → exec (.setLineRate rate) s = .next (s.replied 0x15 .wrongState [])) ∧
      (rate.toNat ∈ [10, 20, 40] → s.line.state = .off →
        exec (.setLineRate rate) s = .next ((s.setLine { s.line with rate := rate.toNat }).replied 0x15 .ok []))) ∧
  (∀ s : State, s.ready →
      exec .surveyResult s =
        .next
          ((s.setLink { s.link with surveyDone := false, clearMayFollow := true }).replied 0x17 .ok
            ([surveyStateCode s.survey.record.state, BitVec.ofNat 8 s.survey.record.roundsRun,
                BitVec.ofNat 8 s.survey.record.newSeated, BitVec.ofNat 8 s.survey.record.rejoined,
                BitVec.ofNat 8 s.survey.record.skipped, BitVec.ofNat 8 s.survey.record.failedRounds,
                BitVec.ofNat 8 s.survey.record.undescribed,
                (if s.survey.record.start.isSome then 0x01 else 0x00) |||
                  (if s.survey.record.finish.isSome then 0x02 else 0x00)] ++
              optionBytes 4 (fun d : Timestamp => bigEndian 4 d.toNat) s.survey.record.start ++
              optionBytes 4 (fun d : Timestamp => bigEndian 4 d.toNat) s.survey.record.finish)) ∧
      (∀ (period : BitVec 16) (limit : Byte),
        10 ≤ period.toNat ∧ period.toNat ≤ 10000 ∧ 1 ≤ limit.toNat ∧ limit.toNat ≤ 15 →
          ∃ t, exec (.setPoll period limit) s = .next t ∧
            t.sched = { s.sched with period := period.toNat, missLimit := limit.toNat } ∧
            (∀ i : Slot, t.entry i = { s.entry i with missCount := 0 }) ∧ t.dir.bindings = s.dir.bindings ∧
            t.dir.changes = s.dir.changes ∧ t.link = { s.link with reply := some [0x98, 0x00] } ∧ t.start = s.start ∧
            t.settings = s.settings ∧ t.survey = s.survey ∧ t.line = s.line ∧ t.store = s.store ∧ t.pool = s.pool ∧
            t.faults = s.faults ∧ t.nodes = s.nodes) ∧
      (∀ (period : BitVec 16) (limit : Byte),
        ¬ (10 ≤ period.toNat ∧ period.toNat ≤ 10000 ∧ 1 ≤ limit.toNat ∧ limit.toNat ≤ 15) →
          exec (.setPoll period limit) s = .next (s.replied 0x18 .badValue [])))

/-- SURVEY in every line state: from RUNNING the record is rewritten, the timers stop, the due set is kept, the latch is
left, and what is on the line stays there. Until the reply has been sent no survey frame begins, also where the line
becomes free before; at its end the first CALL begins on a line that is free, with nothing owed and nothing in flight. That
the end of the reply is what the CALL waits for is DEDUCED (log entry 36); that a survey still to stop has stopped by the
time SURVEY is taken, so that its latch is set, is the model's choice (log entry 15). -/
def Obligations.SurveyBegins : Prop :=
  (∀ s : State, s.ready →
    (s.line.state = .survey → exec .survey s = .next (s.replied 0x16 .busy [])) ∧
    (s.line.state = .off → exec .survey s = .next (s.replied 0x16 .lineOff [])) ∧
    (s.line.state = .held → exec .survey s = .next (s.replied 0x16 .lineHeld [])) ∧
    (s.line.state = .running → ∃ t, exec .survey s = .next t ∧
      t.line = { s.line with state := .survey, silence := false, keepWaiting := false } ∧
      t.sched = { s.sched with cycle := none } ∧
      t.survey =
        { record := { SurveyRecord.blank with state := .running, start := some s.now }
          round := none
          failures := 0
          stopping := false } ∧
      (s.survey.stopping = false → t.link = { s.link with reply := some [0x96, 0x00] }) ∧
      (s.survey.stopping = true → s.link.clearMayFollow = false →
        t.link = { s.link with reply := some [0x96, 0x00], surveyDone := true }) ∧
      t.start = s.start ∧ t.settings = s.settings ∧ t.dir = s.dir ∧ t.store = s.store ∧ t.pool = s.pool ∧
      t.faults = s.faults ∧ t.nodes = s.nodes)) ∧
  (∀ s : State, s.start.phase = .running → s.link.reply = some [0x96, 0x00] → s.line.state = .survey →
    s.line.owed = [] → s.pool.inFlight = none → s.noHoldAsked →
      (∀ x, s.line.txn = some x → x.phase = .space → x.user = .poll ∨ x.user = .pool ∨ x.user = .keepAlive →
        exec .spaceEnd s = .next (s.nodesLeave.setTxn none)) ∧
      (s.link.restartDue = false → s.link.rateChange = none →
        let sent := s.setLink { s.link with reply := none, clearMayFollow := false }
        (s.lineAllows = true → s.survey.round = none →
          exec .replyEnd s =
            .next
              (beginFrame { command := .call, target := none, data := [] } .survey
                (sent.setSurvey
                  { s.survey with
                    record := { s.survey.record with roundsRun := s.survey.record.roundsRun + 1 }
                    round := some freshRound }))) ∧
        (s.lineAllows = false → exec .replyEnd s = .next sent)))

/-! ## The directory -/

/-- R10: PAUSE and ACTIVATE in every entry state; nothing but the state, the miss count and the due set changes, and an
ACTIVE entry's slot joins the due set at the next cycle start. -/
def Obligations.PauseAndActivateDecide : Prop :=
  ∀ (i : Slot) (s : State), s.ready →
    ((s.entry i).state = .active →
      exec (.pause (slotByte i)) s =
        .next (((s.setEntry i { s.entry i with state := .paused, missCount := 0 }).setDue i false).replied 0x23 .ok [])) ∧
    ((s.entry i).state = .paused → exec (.pause (slotByte i)) s = .next (s.replied 0x23 .ok [])) ∧
    ((s.entry i).state = .undescribed ∨ (s.entry i).state = .lost →
      exec (.pause (slotByte i)) s = .next (s.replied 0x23 .wrongState [])) ∧
    ((s.entry i).state = .free → exec (.pause (slotByte i)) s = .next (s.replied 0x23 .noNode [])) ∧
    ((s.entry i).state = .paused →
      exec (.activate (slotByte i)) s = .next ((s.setEntry i { s.entry i with state := .active }).replied 0x24 .ok [])) ∧
    ((s.entry i).state = .active → exec (.activate (slotByte i)) s = .next (s.replied 0x24 .ok [])) ∧
    ((s.entry i).state = .undescribed ∨ (s.entry i).state = .lost →
      exec (.activate (slotByte i)) s = .next (s.replied 0x24 .wrongState [])) ∧
    ((s.entry i).state = .free → exec (.activate (slotByte i)) s = .next (s.replied 0x24 .noNode [])) ∧
    (∀ u : State, (u.entry i).state = .active → (cycleStart u).isDue i = true)

/-- FORGET checks the line state, then the entry's state; a LOST entry takes its FREE values, its ring is released, and
the change set, the bindings and every other entry stand. OPEN_GATE, CLOSE_GATE and SET_GATE_MODE on every entry, in
every line state and with every mode. -/
def Obligations.ForgetAndGateRequestsDecide : Prop :=
  (∀ (i : Slot) (s : State), s.ready →
      (s.line.state = .survey → exec (.forget (slotByte i)) s = .next (s.replied 0x25 .busy [])) ∧
      (s.line.state ≠ .survey → (s.entry i).state = .free → exec (.forget (slotByte i)) s = .next (s.replied 0x25 .noNode [])) ∧
      (s.line.state ≠ .survey →
        (s.entry i).state = .active ∨ (s.entry i).state = .paused ∨ (s.entry i).state = .undescribed →
          exec (.forget (slotByte i)) s = .next (s.replied 0x25 .wrongState [])) ∧
      (s.line.state ≠ .survey → (s.entry i).state = .lost →
        exec (.forget (slotByte i)) s =
          .next ((((s.setEntry i Entry.blank).setRing i none).setDue i false).replied 0x25 .ok []))) ∧
  (∀ (i : Slot) (s : State), s.ready →
      (s.line.state = .held → exec (.openGate (slotByte i)) s = .next (s.replied 0x26 .lineHeld [])) ∧
      (s.line.state ≠ .held → (s.entry i).state = .free → exec (.openGate (slotByte i)) s = .next (s.replied 0x26 .noNode [])) ∧
      (s.line.state ≠ .held → (s.entry i).state ≠ .free → (s.entry i).gateMode = .free →
        exec (.openGate (slotByte i)) s = .next (s.replied 0x26 .ok [])) ∧
      (s.line.state ≠ .held → (s.entry i).state ≠ .free → (s.entry i).gateMode ≠ .free →
        exec (.openGate (slotByte i)) s = .next ((s.setEntry i { s.entry i with gateOpen := true }).replied 0x26 .ok [])) ∧
      ((s.entry i).state = .free → exec (.closeGate (slotByte i)) s = .next (s.replied 0x27 .noNode [])) ∧
      ((s.entry i).state ≠ .free →
        exec (.closeGate (slotByte i)) s = .next ((s.setEntry i { s.entry i with gateOpen := false }).replied 0x27 .ok [])) ∧
      (∀ (slot mode : Byte), gateModeOf mode = none → exec (.setGateMode slot mode) s = .next (s.replied 0x28 .badValue [])) ∧
      (∀ (mode : Byte) (m : GateMode), gateModeOf mode = some m →
        ((s.entry i).state = .free → exec (.setGateMode (slotByte i) mode) s = .next (s.replied 0x28 .noNode [])) ∧
        ((s.entry i).state ≠ .free →
          exec (.setGateMode (slotByte i) mode) s =
            .next
              ((s.setEntry i { s.entry i with gateMode := m, gateSource := .host, gateOpen := false }).replied 0x28 .ok []))))

/-- BIND checks the line state, the entry and the slot's binding; accepted, it moves the identity's binding to this
slot, changes no other binding, and names the slot it was bound to before. -/
def Obligations.BindDecides : Prop :=
  ∀ (i : Slot) (s : State), s.ready →
    (s.line.state = .survey → exec (.bind (slotByte i)) s = .next (s.replied 0x29 .busy [])) ∧
    (s.line.state ≠ .survey → (s.entry i).state = .free → exec (.bind (slotByte i)) s = .next (s.replied 0x29 .noNode [])) ∧
    (∀ x y : Identity, s.line.state ≠ .survey → (s.entry i).state ≠ .free → (s.entry i).identity = some x →
      cell s.dir.bindings i = some y → y ≠ x → exec (.bind (slotByte i)) s = .next (s.replied 0x29 .slotBound [])) ∧
    (∀ x : Identity, s.line.state ≠ .survey → (s.entry i).state ≠ .free → (s.entry i).identity = some x →
      cell s.dir.bindings i = none ∨ cell s.dir.bindings i = some x →
        ∃ t former, exec (.bind (slotByte i)) s = .next t ∧
          (∀ j : Slot, cell t.dir.bindings j =
            if j = i then some x else if cell s.dir.bindings j = some x then none else cell s.dir.bindings j) ∧
          (former = 0 ∧ (∀ j : Slot, j ≠ i → cell s.dir.bindings j ≠ some x) ∨
            ∃ j : Slot, j ≠ i ∧ former = slotByte j ∧ cell s.dir.bindings j = some x) ∧
          t.dir.entries = s.dir.entries ∧ t.dir.changes = s.dir.changes ∧
          t.link = { s.link with reply := some [0xA9, 0x00, former] } ∧ t.start = s.start ∧ t.settings = s.settings ∧
          t.survey = s.survey ∧ t.line = s.line ∧ t.sched = s.sched ∧ t.store = s.store ∧ t.pool = s.pool ∧
          t.faults = s.faults ∧ t.nodes = s.nodes)

/-- R20: UNBIND removes the slot's binding, or is answered NOT_BOUND; a slot choice made after it does not see the
binding; LIST_BINDINGS returns every binding in ascending slot order and changes nothing. -/
def Obligations.UnbindAndListBindings : Prop :=
  ∀ s : State, s.ready →
    (∀ slot : Byte, slotOf slot = none → exec (.unbind slot) s = .next (s.replied 0x2A .badSlot [])) ∧
    (∀ i : Slot, cell s.dir.bindings i = none → exec (.unbind (slotByte i)) s = .next (s.replied 0x2A .notBound [])) ∧
    (∀ (i : Slot) (x : Identity), cell s.dir.bindings i = some x →
      ∃ t, exec (.unbind (slotByte i)) s = .next t ∧
        t = ({ s with dir := { s.dir with bindings := putCell s.dir.bindings i none } } : State).replied 0x2A .ok [] ∧
        ∀ y : Identity, t.slotBound y ≠ some i) ∧
    exec .listBindings s =
      .next
        (s.replied 0x2B .ok
          (BitVec.ofNat 8 s.bindingList.length ::
            (s.bindingList.map fun b => slotByte b.1 :: identityBytes b.2).flatten)) ∧
    (∀ (i : Slot) (x : Identity), (i, x) ∈ s.bindingList ↔ cell s.dir.bindings i = some x) ∧
    s.bindingList.length ≤ 32 ∧ s.bindingList.Pairwise (fun a b => a.1 < b.1)

/-- DIR_CHANGES returns the slots of the change set, all of them and in ascending order, and empties it; LIST_NODES
returns at most 24 entries that are not FREE, in ascending slot order from the slot named on, with the more-follow flag;
NODE_INFO returns 40 bytes. The last two change nothing. -/
def Obligations.DirectoryQueriesReport : Prop :=
  ∀ s : State, s.ready →
    exec .dirChanges s =
      .next
        (({ s with dir := { s.dir with changes := allCells 32 false } } : State).replied 0x22 .ok
          (BitVec.ofNat 8 s.changeList.length :: s.changeList.map slotByte)) ∧
    (∀ i : Slot,
      exec (.listNodes (slotByte i)) s =
        .next
          (s.replied 0x20 .ok
            (BitVec.ofNat 8 ((s.nodesFrom i).take 24).length :: flagByte (decide (24 < (s.nodesFrom i).length)) ::
              (((s.nodesFrom i).take 24).map (nodeItem s)).flatten))) ∧
    (∀ i : Slot, i ∈ s.changeList ↔ s.isChanged i = true) ∧ s.changeList.Pairwise (fun a b => a < b) ∧
    (∀ i j : Slot, j ∈ s.nodesFrom i ↔ i ≤ j ∧ (s.entry j).state ≠ .free) ∧
    (∀ i : Slot, (s.nodesFrom i).Pairwise (fun a b => a < b)) ∧
    (∀ i : Slot,
      exec (.nodeInfo (slotByte i)) s =
        .next (s.replied 0x21 .ok (nodeInfoBytes (s.entry i) (s.ring i).isSome (cell s.dir.bindings i))) ∧
      (nodeInfoBytes (s.entry i) (s.ring i).isSome (cell s.dir.bindings i)).length = 40)

/-- A slot outside 1 to 32 (outside 0 to 32 for INJECT_FAULT) is refused with BAD_SLOT by every request that names one,
once its other parameters and the checks that come before it have passed, and nothing changes. -/
def Obligations.BadSlotsAreRefused : Prop :=
  ∀ (b : Byte) (s : State), s.ready → slotOf b = none →
    exec (.listNodes b) s = .next (s.replied 0x20 .badSlot []) ∧
    exec (.nodeInfo b) s = .next (s.replied 0x21 .badSlot []) ∧
    exec (.pause b) s = .next (s.replied 0x23 .badSlot []) ∧
    exec (.activate b) s = .next (s.replied 0x24 .badSlot []) ∧
    exec (.forget b) s = .next (s.replied 0x25 .badSlot []) ∧
    exec (.openGate b) s = .next (s.replied 0x26 .badSlot []) ∧
    exec (.closeGate b) s = .next (s.replied 0x27 .badSlot []) ∧
    (∀ mode, (gateModeOf mode).isSome = true → exec (.setGateMode b mode) s = .next (s.replied 0x28 .badSlot [])) ∧
    exec (.bind b) s = .next (s.replied 0x29 .badSlot []) ∧
    exec (.releaseRing b) s = .next (s.replied 0x32 .badSlot []) ∧
    exec (.flushRing b) s = .next (s.replied 0x35 .badSlot []) ∧
    exec (.ringInfo b) s = .next (s.replied 0x36 .badSlot []) ∧
    exec (.unbind b) s = .next (s.replied 0x2A .badSlot []) ∧
    (∀ (policy : Byte) (base size watermark : BitVec 16), (policyOf policy).isSome = true → size.toNat ∈ ringSizes →
      base.toNat % size.toNat = 0 → base.toNat + size.toNat ≤ 8192 → watermark.toNat ≤ size.toNat →
        exec (.assignRing b base size policy watermark) s = .next (s.replied 0x30 .badSlot [])) ∧
    (∀ (policy : Byte) (watermark : BitVec 16), (policyOf policy).isSome = true → watermark.toNat ≤ 4096 →
      exec (.setRing b policy watermark) s = .next (s.replied 0x31 .badSlot [])) ∧
    (∀ skip max : Byte, 1 ≤ max.toNat → max.toNat ≤ 10 →
      exec (.fetch b max) s = .next (s.replied 0x33 .badSlot []) ∧
        exec (.peek b skip max) s = .next (s.replied 0x34 .badSlot [])) ∧
    (∀ (c : Instr) (code tag : Byte) (work : PoolWork), poolForm c = some (code, tag, b, work) → tag ≠ 0 →
      exec c s = .next (s.replied code .badSlot [])) ∧
    (∀ (k : FaultKind) (detail : Byte), 32 < b.toNat →
      exec (.injectFault (faultKindCode k) b detail) s = .next (s.replied 0x56 .badSlot []))

/-! ## The report store -/

/-- ASSIGN_RING's checks in order, and the new ring; the old ring's records are counted and dropped. An entry that is
FREE is refused NO_NODE and an entry with no ring NO_RING by the ring requests; SET_RING writes the policy and the
watermark alone, RELEASE_RING removes the ring and counts its records. -/
def Obligations.RingsAreAssignedSetAndReleased : Prop :=
  (∀ (i : Slot) (base size watermark : BitVec 16) (policy : Byte) (s : State), s.ready →
      (∀ slot, ¬ ((policyOf policy).isSome = true ∧ size.toNat ∈ ringSizes ∧ base.toNat % size.toNat = 0 ∧
          base.toNat + size.toNat ≤ 8192 ∧ watermark.toNat ≤ size.toNat) →
        exec (.assignRing slot base size policy watermark) s = .next (s.replied 0x30 .badValue [])) ∧
      (∀ p, policyOf policy = some p → size.toNat ∈ ringSizes → base.toNat % size.toNat = 0 →
        base.toNat + size.toNat ≤ 8192 → watermark.toNat ≤ size.toNat →
          (∀ slot, slotOf slot = none →
            exec (.assignRing slot base size policy watermark) s = .next (s.replied 0x30 .badSlot [])) ∧
          ((s.entry i).state = .free →
            exec (.assignRing (slotByte i) base size policy watermark) s = .next (s.replied 0x30 .noNode [])) ∧
          ((s.entry i).state ≠ .free → s.overlapsOther i base.toNat size.toNat = true →
            exec (.assignRing (slotByte i) base size policy watermark) s = .next (s.replied 0x30 .overlap [])) ∧
          ((s.entry i).state ≠ .free → s.overlapsOther i base.toNat size.toNat = false →
            exec (.assignRing (slotByte i) base size policy watermark) s =
              .next
                ((s.setRing i (some (newRing base.toNat size.toNat p watermark.toNat))).replied 0x30 .ok
                  (bigEndian 2 (ringCount (s.ring i))))))) ∧
  (∀ (i : Slot) (s : State), s.ready →
      ((s.entry i).state = .free → exec (.releaseRing (slotByte i)) s = .next (s.replied 0x32 .noNode [])) ∧
      ((s.entry i).state ≠ .free → s.ring i = none → exec (.releaseRing (slotByte i)) s = .next (s.replied 0x32 .noRing [])) ∧
      (∀ r, (s.entry i).state ≠ .free → s.ring i = some r →
        exec (.releaseRing (slotByte i)) s = .next ((s.setRing i none).replied 0x32 .ok (bigEndian 2 r.count))) ∧
      (∀ (slot policy : Byte) (watermark : BitVec 16), (policyOf policy = none ∨ 4096 < watermark.toNat) →
        exec (.setRing slot policy watermark) s = .next (s.replied 0x31 .badValue [])) ∧
      (∀ (policy : Byte) (p : RingPolicy) (watermark : BitVec 16), policyOf policy = some p → watermark.toNat ≤ 4096 →
        ((s.entry i).state = .free →
          exec (.setRing (slotByte i) policy watermark) s = .next (s.replied 0x31 .noNode [])) ∧
        ((s.entry i).state ≠ .free → s.ring i = none →
          exec (.setRing (slotByte i) policy watermark) s = .next (s.replied 0x31 .noRing [])) ∧
        (∀ r, (s.entry i).state ≠ .free → s.ring i = some r → r.size < watermark.toNat →
          exec (.setRing (slotByte i) policy watermark) s = .next (s.replied 0x31 .badValue [])) ∧
        (∀ r, (s.entry i).state ≠ .free → s.ring i = some r → watermark.toNat ≤ r.size →
          exec (.setRing (slotByte i) policy watermark) s =
            .next ((s.setRing i (some { r with policy := p, watermark := watermark.toNat })).replied 0x31 .ok []))))

/-- FETCH removes the oldest records, as many as max and the ring hold, and returns them whole; PEEK returns records
and changes nothing; a max outside 1 to 10 is refused by both. FLUSH_RING empties the ring and clears its mark and keeps
the rest of its descriptor; a record that the store appends to the flushed ring takes no loss-before. RING_INFO returns
20 bytes of the descriptor and changes nothing. All four answer NO_NODE for a FREE entry and NO_RING for one without a
ring. -/
def Obligations.FetchPeekFlushAndRingInfo : Prop :=
  (∀ (i : Slot) (s : State), s.ready →
        (∀ (slot skip max : Byte), ¬ (1 ≤ max.toNat ∧ max.toNat ≤ 10) →
          exec (.fetch slot max) s = .next (s.replied 0x33 .badValue []) ∧
            exec (.peek slot skip max) s = .next (s.replied 0x34 .badValue [])) ∧
        (∀ (skip max : Byte) (r : Ring), 1 ≤ max.toNat → max.toNat ≤ 10 → (s.entry i).state ≠ .free → s.ring i = some r →
          (∃ t, exec (.fetch (slotByte i) max) s = .next t ∧
            t = (s.setRing i (some (dropRecords s.store.memory (min max.toNat r.count) r))).replied 0x33 .ok
              (BitVec.ofNat 8 (min max.toNat r.count) :: bigEndian 2 (r.count - min max.toNat r.count) ++
                (readRecords s.store.memory r (min max.toNat r.count) 0).flatten)) ∧
          exec (.peek (slotByte i) skip max) s =
            .next
              (s.replied 0x34 .ok
                (BitVec.ofNat 8 (min max.toNat (r.count - skip.toNat)) ::
                  bigEndian 2 (r.count - skip.toNat - min max.toNat (r.count - skip.toNat)) ++
                  (readRecords s.store.memory r (min max.toNat (r.count - skip.toNat))
                    (afterRecords s.store.memory r (min skip.toNat r.count) 0)).flatten))) ∧
        (∀ (skip max : Byte), 1 ≤ max.toNat → max.toNat ≤ 10 → (s.entry i).state ≠ .free → s.ring i = none →
          exec (.fetch (slotByte i) max) s = .next (s.replied 0x33 .noRing []) ∧
            exec (.peek (slotByte i) skip max) s = .next (s.replied 0x34 .noRing [])) ∧
        (∀ (skip max : Byte), 1 ≤ max.toNat → max.toNat ≤ 10 → (s.entry i).state = .free →
          exec (.fetch (slotByte i) max) s = .next (s.replied 0x33 .noNode []) ∧
            exec (.peek (slotByte i) skip max) s = .next (s.replied 0x34 .noNode [])) ∧
        ((s.entry i).state = .free →
          exec (.flushRing (slotByte i)) s = .next (s.replied 0x35 .noNode []) ∧
            exec (.ringInfo (slotByte i)) s = .next (s.replied 0x36 .noNode [])) ∧
        ((s.entry i).state ≠ .free → s.ring i = none →
          exec (.flushRing (slotByte i)) s = .next (s.replied 0x35 .noRing []) ∧
            exec (.ringInfo (slotByte i)) s = .next (s.replied 0x36 .noRing []))) ∧
  (∀ (i : Slot) (r : Ring) (s : State), s.ready → (s.entry i).state ≠ .free → s.ring i = some r →
        exec (.flushRing (slotByte i)) s =
          .next
            ((s.setRing i (some { r with used := 0, count := 0, pendingLoss := false })).replied 0x35 .ok (bigEndian 2 r.count)) ∧
        (∀ (rec : ReportRecord) (u : State), (recordBytes rec).length ≤ r.size → rec.lossBefore = false →
          appendTo i { r with used := 0, count := 0, pendingLoss := false } rec u =
            (u.setMemory
                (ringWrite u.store.memory { r with used := 0, count := 0, pendingLoss := false } 0 (recordBytes rec))).setRing i
              (some
                { r with
                  used := (recordBytes rec).length, count := 1, pendingLoss := false, stored := satAdd r.stored 1 })) ∧
        exec (.ringInfo (slotByte i)) s = .next (s.replied 0x36 .ok (ringInfoBytes r)) ∧ (ringInfoBytes r).length = 20)

/-! ## The request pool -/

/-- The acceptance checks of the five requests of the pool, in order, whatever their parameters. -/
def Obligations.PoolRequestsAreCheckedInOrder : Prop :=
  ∀ (c : Instr) (code tag slot : Byte) (work : PoolWork) (s : State), s.ready →
    (∀ pattern, patternOf pattern = none → exec (.nodeTest tag slot pattern) s = .next (s.replied 0x44 .badValue [])) ∧
    (poolForm c = some (code, tag, slot, work) →
      (tag = 0 → exec c s = .next (s.replied code .badValue [])) ∧
      (tag ≠ 0 → slotOf slot = none → exec c s = .next (s.replied code .badSlot [])) ∧
      (∀ i : Slot, tag ≠ 0 → slotOf slot = some i →
        (s.line.state = .held → exec c s = .next (s.replied code .lineHeld [])) ∧
        (s.line.state ≠ .held → (s.entry i).state = .free → exec c s = .next (s.replied code .noNode [])) ∧
        (s.line.state ≠ .held → (s.entry i).state ≠ .free → tag ∈ s.pool.tags →
          exec c s = .next (s.replied code .duplicateTag [])) ∧
        (s.line.state ≠ .held → (s.entry i).state ≠ .free → tag ∉ s.pool.tags → 8 ≤ s.pool.size →
          exec c s = .next (s.replied code .poolFull [])) ∧
        (s.line.state ≠ .held → (s.entry i).state ≠ .free → tag ∉ s.pool.tags → s.pool.size < 8 →
          isWrite work = true → (s.entry i).gateMode ≠ .free → (s.entry i).gateOpen = false →
            exec c s = .next (s.replied code .gateClosed []))))

/-- A request of the pool that passes every check is accepted: its record joins the tail of the queue, and a NODE_WRITE
in mode GATED closes the gate. Where the line is not free, or held dominant (for under 40 bit times outside a
transaction the model's choice, log entry 29), it waits there; on a free RUNNING line with nothing else waiting its
first attempt begins at once. -/
def Obligations.PoolRequestsAreAccepted : Prop :=
  ∀ (c : Instr) (code tag slot : Byte) (work : PoolWork) (i : Slot) (s : State), s.ready → s.noHoldAsked →
    poolForm c = some (code, tag, slot, work) → tag ≠ 0 → slotOf slot = some i → s.line.state ≠ .held →
    (s.entry i).state ≠ .free → tag ∉ s.pool.tags → s.pool.size < 8 →
    (isWrite work = true → (s.entry i).gateMode = .free ∨ (s.entry i).gateOpen = true) →
      let after : Entry :=
        { s.entry i with
          gateOpen := (s.entry i).gateOpen && !(isWrite work && decide ((s.entry i).gateMode = .gated)) }
      let queued : Pool := { s.pool with queued := s.pool.queued ++ [{ tag, slot := i, work, attempts := 0 }] }
      (s.lineAllows = false ∨ (s.line.state = .off ∧ s.line.owed = []) →
        exec c s = .next (((s.setPool queued).setEntry i after).replied code .ok [])) ∧
      (s.lineAllows = true → s.line.owed = [] → s.line.state = .running → s.line.keepWaiting = false →
        s.pool.queued = [] → s.pool.inFlight = none → s.lowestDue = none → (s.entry i).state ≠ .lost →
          ∃ t x, exec c s = .next t ∧
            t.pool = { s.pool with inFlight := some { tag, slot := i, work, attempts := 1 } } ∧
            t.line.txn = some x ∧ x.phase = .send ∧ x.user = .pool ∧
            x.frame = requestFrameOf { tag, slot := i, work, attempts := 1 } ∧ t.line.lastGrant = .pool ∧
            t.entry i = after ∧ (∀ j : Slot, j ≠ i → t.entry j = s.entry j) ∧
            t.link = { s.link with reply := some [code ||| 0x80, 0x00] } ∧ t.start = s.start ∧
            t.settings = s.settings ∧ t.survey = s.survey ∧ t.sched = s.sched ∧ t.store = s.store ∧
            t.faults = s.faults ∧ t.nodes = s.nodes)

/-- TAKE_RESULTS removes the oldest completions and returns them; CANCEL is decided by the record with the tag. -/
def Obligations.TakeResultsAndCancel : Prop :=
  ∀ s : State, s.ready →
    (∀ max : Byte, ¬ (1 ≤ max.toNat ∧ max.toNat ≤ 8) → exec (.takeResults max) s = .next (s.replied 0x45 .badValue [])) ∧
    (∀ max : Byte, 1 ≤ max.toNat → max.toNat ≤ 8 →
      exec (.takeResults max) s =
        .next
          ((s.setPool { s.pool with completed := s.pool.completed.drop max.toNat }).replied 0x45 .ok
            (BitVec.ofNat 8 (s.pool.completed.take max.toNat).length ::
              BitVec.ofNat 8 (s.pool.completed.drop max.toNat).length ::
              ((s.pool.completed.take max.toNat).map completionBytes).flatten))) ∧
    exec (.cancel 0) s = .next (s.replied 0x46 .badValue []) ∧
    (∀ tag : Byte, tag ≠ 0 →
      (tag ∈ s.pool.queued.map (fun r => r.tag) →
        exec (.cancel tag) s =
          .next
            ((s.setPool { s.pool with queued := s.pool.queued.filter fun r => r.tag ≠ tag }).replied 0x46 .ok [])) ∧
      (∀ r, tag ∉ s.pool.queued.map (fun r => r.tag) → s.pool.inFlight = some r → r.tag = tag →
        exec (.cancel tag) s = .next (s.replied 0x46 .inFlight [])) ∧
      (tag ∉ s.pool.queued.map (fun r => r.tag) → (∀ r, s.pool.inFlight = some r → r.tag ≠ tag) →
        tag ∈ s.pool.completed.map (fun c => c.request.tag) →
          exec (.cancel tag) s = .next (s.replied 0x46 .wrongState [])) ∧
      (tag ∉ s.pool.tags → exec (.cancel tag) s = .next (s.replied 0x46 .unknownTag [])))

/-! ## The fault unit -/

/-- An occurrence is recorded and its kind's reaction applied: the count rises and saturates, the first occurrence
stands, the latest is this one; NOTE, ALERT and HOLD set the FAULT latch; ALERT gives a kind in NONE a deadline; HOLD
asks for a hold; no other kind's record, and nothing else of the part, changes. A hold asked for is taken once the
detector's event is whole (R146; that it comes within the same command is DEDUCED, log entry 25): in HELD nothing
changes, and in any other line state it is the hold entry of HoldLineEntersHold. Which moment is the survey's frame
boundary, and that a describe phase cut short does not add its slot to the change set again, are the model's choices
(log entries 15 and 35); the latch is open where its clearing may follow (log entry 10). -/
def Obligations.OccurrencesAreRecorded : Prop :=
  (∀ (k : FaultKind) (slot detail : Byte) (injected : Bool) (s t : State), occur k slot detail injected s = t →
      (t.record k).count = satAdd (s.record k).count 1 ∧
      (t.record k).latest = some { slot, timestamp := s.now, detail, injected } ∧
      ((s.record k).first = none → (t.record k).first = (t.record k).latest) ∧
      ((s.record k).first ≠ none → (t.record k).first = (s.record k).first) ∧
      (s.reaction k = .alert → (s.record k).alert = .none →
        (t.record k).alert = .pending ∧ (t.record k).deadline = some (s.now + BitVec.ofNat 32 s.faults.ackWindow)) ∧
      (s.reaction k ≠ .alert ∨ (s.record k).alert ≠ .none →
        (t.record k).alert = (s.record k).alert ∧ (t.record k).deadline = (s.record k).deadline) ∧
      t.link = { s.link with faultLatch := s.link.faultLatch || decide (s.reaction k ≠ .ignore) } ∧
      t.faults.holdAsked = (s.faults.holdAsked || decide (s.reaction k = .hold)) ∧
      (∀ l : FaultKind, l ≠ k → t.record l = s.record l) ∧ t.faults.reactions = s.faults.reactions ∧
      t.faults.ackWindow = s.faults.ackWindow ∧ t.start = s.start ∧ t.settings = s.settings ∧ t.dir = s.dir ∧
      t.survey = s.survey ∧ t.line = s.line ∧ t.sched = s.sched ∧ t.store = s.store ∧ t.pool = s.pool ∧
      t.nodes = s.nodes) ∧
  (∀ u : State,
      (u.faults.holdAsked = false → takeHold u = u) ∧
      (u.faults.holdAsked = true → u.line.state = .held →
        takeHold u = { u with faults := { u.faults with holdAsked := false } }) ∧
      (u.faults.holdAsked = true → u.line.state ≠ .held →
        let t := takeHold u
        t.line =
            { u.line with
              state := .held
              txn := u.line.txn.map toldToEnd
              owed := t.line.owed
              silence := false
              keepWaiting := false
              haltTimer := false
              haltWaiting := false } ∧
          t.line.owed.getLast?.map (fun o => o.command) = some .halt ∧
          t.sched = { u.sched with due := allCells 32 false, cycle := none } ∧
          (∀ i : Slot, t.entry i = { u.entry i with gateOpen := false }) ∧ t.dir.bindings = u.dir.bindings ∧
          t.dir.changes = u.dir.changes ∧
          t.pool =
            { queued := []
              inFlight := none
              completed :=
                u.pool.completed ++
                  (u.pool.inFlight.toList ++ u.pool.queued).map fun r => { request := r, outcome := .aborted, data := [] } } ∧
          (u.line.state = .survey → u.surveyFrameRuns = true →
            t.survey = { u.survey with stopping := true } ∧ t.link.surveyDone = u.link.surveyDone) ∧
          (u.line.state = .survey → u.surveyFrameRuns = false → surveyStopped u t) ∧
          (u.line.state ≠ .survey → t.survey = u.survey ∧ t.link.surveyDone = u.link.surveyDone) ∧
          t.link = { u.link with surveyDone := t.link.surveyDone } ∧
          t.faults = { u.faults with holdAsked := false } ∧ t.store = u.store ∧ t.start = u.start ∧
          t.settings = u.settings ∧ t.nodes = u.nodes))

/-- FAULT_SUMMARY clears the FAULT latch and nothing else and returns every kind's count and alert state. CLEAR_FAULT
empties the record of a kind in NONE and is answered NOT_ACKED for one in alert; SET_REACTION and SET_ACK_WINDOW
check their values and write them. -/
def Obligations.FaultSummaryAndSettings : Prop :=
  (∀ s : State, s.ready →
      exec .faultSummary s =
        .next
          ((s.setLink { s.link with faultLatch := false }).replied 0x50 .ok
            ((faultKinds.map fun k => [(s.record k).count, alertStateCode (s.record k).alert]).flatten ++
              [BitVec.ofNat 8 s.alertCount]))) ∧
  (∀ (k : FaultKind) (s : State), s.ready →
      (∀ b r, faultKindOf b = none →
        exec (.clearFault b) s = .next (s.replied 0x53 .badValue []) ∧
          exec (.setReaction b r) s = .next (s.replied 0x54 .badValue [])) ∧
      ((s.record k).alert = .none →
        exec (.clearFault (faultKindCode k)) s =
          .next ((s.setRecord k { s.record k with count := 0, first := none, latest := none }).replied 0x53 .ok [])) ∧
      ((s.record k).alert ≠ .none → exec (.clearFault (faultKindCode k)) s = .next (s.replied 0x53 .notAcked [])) ∧
      (∀ r : Reaction,
        exec (.setReaction (faultKindCode k) (reactionCode r)) s = .next ((s.setReaction k r).replied 0x54 .ok [])) ∧
      (∀ b, reactionOf b = none → exec (.setReaction (faultKindCode k) b) s = .next (s.replied 0x54 .badValue [])) ∧
      (∀ w : BitVec 16, 10 ≤ w.toNat → w.toNat ≤ 2550 → w.toNat % 10 = 0 →
        exec (.setAckWindow w) s =
          .next (({ s with faults := { s.faults with ackWindow := w.toNat } } : State).replied 0x55 .ok [])) ∧
      (∀ w : BitVec 16, ¬ (10 ≤ w.toNat ∧ w.toNat ≤ 2550 ∧ w.toNat % 10 = 0) →
        exec (.setAckWindow w) s = .next (s.replied 0x55 .badValue [])))

/-- R155: FAULT_RECORD returns the reaction, the count, both occurrences, the alert state and the deadline of one kind,
each in its place of the 22 bytes, and changes nothing but the reply; the deadline is present where the alert state is
PENDING. -/
def Obligations.FaultRecordReports : Prop :=
  ∀ s : State, s.ready →
    (∀ b, faultKindOf b = none → exec (.faultRecord b) s = .next (s.replied 0x51 .badValue [])) ∧
    (∀ k : FaultKind,
      exec (.faultRecord (faultKindCode k)) s =
        .next
          (s.replied 0x51 .ok
            ([reactionCode (s.reaction k), (s.record k).count, alertStateCode (s.record k).alert,
                (if (s.record k).first.isSome then 0x01 else 0x00) |||
                  (if (s.record k).latest.isSome then 0x02 else 0x00) |||
                  (if (s.record k).deadline.isSome then 0x04 else 0x00)] ++
              optionBytes 7 occurrenceBytes (s.record k).first ++ optionBytes 7 occurrenceBytes (s.record k).latest ++
              optionBytes 4 (fun d : Timestamp => bigEndian 4 d.toNat) (s.record k).deadline))) ∧
    (faultTableLawful s → ∀ k : FaultKind, (s.record k).deadline.isSome ↔ (s.record k).alert = .pending)

/-- R150: FAULT_ACK is decided by the alert state: PENDING and ESCALATED return to NONE without a deadline, with the
late indicator; everything else stands, the line state too. The next occurrence under ALERT makes the kind PENDING with
a new deadline. A held line is resumed once no kind is in alert. -/
def Obligations.FaultAckDecides : Prop :=
  ∀ (k : FaultKind) (s : State), s.ready →
    (∀ b, faultKindOf b = none → exec (.faultAck b) s = .next (s.replied 0x52 .badValue [])) ∧
    ((s.record k).alert = .none → exec (.faultAck (faultKindCode k)) s = .next (s.replied 0x52 .notPending [])) ∧
    ((s.record k).alert = .pending →
      exec (.faultAck (faultKindCode k)) s =
        .next ((s.setRecord k { s.record k with alert := .none, deadline := none }).replied 0x52 .ok [0x00])) ∧
    ((s.record k).alert = .escalated →
      exec (.faultAck (faultKindCode k)) s =
        .next ((s.setRecord k { s.record k with alert := .none, deadline := none }).replied 0x52 .ok [0x01])) ∧
    (∀ (slot detail : Byte) (u : State), (u.record k).alert = .none → u.reaction k = .alert →
      ((occur k slot detail false u).record k).alert = .pending ∧
        ((occur k slot detail false u).record k).deadline = some (u.now + BitVec.ofNat 32 u.faults.ackWindow)) ∧
    (∀ u : State, u.ready → u.noHoldAsked → u.line.state = .held → (∀ l : FaultKind, (u.record l).alert = .none) →
      ∃ t, exec .resumeLine u = .next t ∧ t.line.state = .running ∧ t.link.reply = some [0x93, 0x00])

/-- INJECT_FAULT checks the kind, then the slot, and makes an injected occurrence. Under a reaction other than HOLD
nothing but that occurrence comes of it, on a line that has nothing to begin; on any other the line may begin what waits
for it. Under HOLD the line is held, with every gate closed. -/
def Obligations.InjectedFaultsAreTaken : Prop :=
  ∀ (k : FaultKind) (slot detail : Byte) (s : State), s.ready → s.noHoldAsked →
    (∀ b, faultKindOf b = none → exec (.injectFault b slot detail) s = .next (s.replied 0x56 .badValue [])) ∧
    (32 < slot.toNat → exec (.injectFault (faultKindCode k) slot detail) s = .next (s.replied 0x56 .badSlot [])) ∧
    (slot.toNat ≤ 32 → s.reaction k ≠ .hold → s.lineRests →
      exec (.injectFault (faultKindCode k) slot detail) s = .next ((occur k slot detail true s).replied 0x56 .ok [])) ∧
    (slot.toNat ≤ 32 → s.reaction k ≠ .hold →
      ∃ t, exec (.injectFault (faultKindCode k) slot detail) s = .next t ∧
        t.faults = (occur k slot detail true s).faults ∧
        t.link = { (occur k slot detail true s).link with reply := some [0xD6, 0x00] } ∧ t.line.state = s.line.state ∧
        t.dir = s.dir ∧ t.store = s.store ∧ t.settings = s.settings ∧ t.start = s.start ∧ t.nodes = s.nodes) ∧
    (slot.toNat ≤ 32 → s.reaction k = .hold →
      ∃ t, exec (.injectFault (faultKindCode k) slot detail) s = .next t ∧ t.line.state = .held ∧
        t.record k = (occur k slot detail true s).record k ∧ t.link.faultLatch = true ∧
        (s.line.state ≠ .held → ∀ i : Slot, t.entry i = { s.entry i with gateOpen := false }) ∧
        t.store = s.store ∧ t.settings = s.settings ∧ t.start = s.start)

/-- A PENDING kind whose deadline is reached becomes ESCALATED, without a deadline and without an occurrence, and the
line is held. An expiry that is commanded sooner comes when the milliseconds left have passed, and every other kind
whose deadline falls on the way has expired then, and no other (the model's choice, log entry 5). A cycle that has run
out in RUNNING: late cycles are counted where a slot is still due, every ACTIVE slot joins the due set, and the timer
starts again with the working period; with a frame on the line, or the line held dominant, nothing else happens at the
expiry; on a free line a poll of the lowest due slot begins then, with the acknowledgement in its data, or the request
at the head of the queue, as the alternation gives. With no kind PENDING it comes when the milliseconds left to the
timer have passed (log entry 5); in them RXD is idle, so a receiver that waits for it to be high counts their whole bit
times (the model's choice, log entries 3 and 38); that a line held dominant for under 40 bit times outside a
transaction delays the grant too is the model's choice (log entry 29). -/
def Obligations.DeadlinesAndCyclesExpire : Prop :=
  (∀ (k : FaultKind) (d : Timestamp) (s : State), s.start.phase = .running → (s.record k).alert = .pending →
      (s.record k).deadline = some d →
        (deadlineReached d s.now = true → ∃ t, exec (.alertDeadlineExpiry k) s = .next t ∧
          t.record k = { s.record k with alert := .escalated, deadline := none } ∧ t.line.state = .held ∧
          t.alertPin = true ∧ t.link.faultLatch = s.link.faultLatch ∧ (∀ l : FaultKind, l ≠ k → t.record l = s.record l) ∧
          (s.line.state ≠ .held → ∀ i : Slot, t.entry i = { s.entry i with gateOpen := false }) ∧
          t.store = s.store ∧ t.settings = s.settings ∧ t.start = s.start ∧ t.nodes = s.nodes) ∧
        (deadlineReached d s.now = false → ∃ t, exec (.alertDeadlineExpiry k) s = .next t ∧
          t.record k = { s.record k with alert := .escalated, deadline := none } ∧ t.line.state = .held ∧
          t.start = { s.start with clock := d } ∧
          ∀ l : FaultKind, l ≠ k →
            (∀ e, (s.record l).alert = .pending → (s.record l).deadline = some e →
              (∃ j, j < (d - s.now).toNat ∧ deadlineReached e (s.now + BitVec.ofNat 32 j) = true) →
                t.record l = { s.record l with alert := .escalated, deadline := none }) ∧
            ((∀ e, (s.record l).alert = .pending → (s.record l).deadline = some e →
              ∀ j, j < (d - s.now).toNat → deadlineReached e (s.now + BitVec.ofNat 32 j) = false) →
                t.record l = s.record l))) ∧
  (∀ (s : State) (c : CycleTimer), s.start.phase = .running → s.noHoldAsked →
      (∀ k : FaultKind, (s.record k).alert ≠ .pending) → s.sched.cycle = some c → s.line.state = .running →
        ∃ t : State,
          (∀ i : Slot, t.isDue i = (s.isDue i || decide ((s.entry i).state = .active))) ∧
          t.sched.cycle = some { length := s.sched.period, remaining := s.sched.period } ∧
          t.sched.lateCycles = (if s.lowestDue.isSome then satAdd s.sched.lateCycles 1 else s.sched.lateCycles) ∧
          t.sched.period = s.sched.period ∧ t.sched.missLimit = s.sched.missLimit ∧
          t.start = { s.start with clock := s.start.clock + BitVec.ofNat 32 c.remaining } ∧ t.settings = s.settings ∧
          t.link = s.link.idles c.remaining ∧ t.dir = s.dir ∧ t.survey = s.survey ∧ t.line = s.line ∧
          t.store = s.store ∧ t.pool = s.pool ∧ t.faults = s.faults ∧ t.nodes = s.nodes ∧
          (s.lineAllows = false → exec .cycleTimerExpiry s = .next t) ∧
          (s.lineAllows = true → s.line.owed = [] → s.line.keepWaiting = false → s.pool.inFlight = none →
            (s.pool.queued = [] → (∀ i : Slot, t.isDue i = false) → exec .cycleTimerExpiry s = .next t) ∧
            (∀ i : Slot, t.isDue i = true → (∀ j : Slot, j < i → t.isDue j = false) →
              s.pool.queued = [] ∨ s.line.lastGrant = .pool →
                exec .cycleTimerExpiry s =
                  .next
                    (beginFrame
                      { command := .poll
                        target := some i
                        data := match (s.entry i).lastSequence with | some q => [0x01, q] | none => [0x00, 0x00] }
                      .poll ((t.setDue i false).setLine { t.line with lastGrant := .poll }))) ∧
            (∀ r rest, s.pool.queued = r :: rest → (∀ i : Slot, t.isDue i = false) ∨ s.line.lastGrant = .poll →
              (s.entry r.slot).state ≠ .free → (s.entry r.slot).state ≠ .lost →
                exec .cycleTimerExpiry s =
                  .next
                    (beginFrame (requestFrameOf r) .pool
                      ((t.setLine { t.line with lastGrant := .pool }).setPool
                        { s.pool with queued := rest, inFlight := some { r with attempts := r.attempts + 1 } })))))

/-- R149 (8.4): ALERT# is asserted exactly while a kind is PENDING or ESCALATED: from the event that makes one PENDING, to
the FAULT_ACK that returns the last one to NONE, whatever the link unit holds; a full reset negates it. R166 (9.5): ATTN#
is asserted exactly while an enabled source is set: a completion waits, a ring is at its watermark, a survey has ended, a
fault is latched, or the change set holds a slot. That the pins are computed from the state is DEDUCED (log entry 30). -/
def Obligations.PinsShowAlertsAndSources : Prop :=
  ∀ s : State,
    (s.alertPin = true ↔ ∃ k : FaultKind, (s.record k).alert = .pending ∨ (s.record k).alert = .escalated) ∧
    (∀ (k : FaultKind) (slot detail : Byte), s.reaction k = .alert → (s.record k).alert = .none →
      (raise k slot detail s).alertPin = true) ∧
    (∀ k : FaultKind, s.ready → (∀ l : FaultKind, l ≠ k → (s.record l).alert = .none) →
      ∃ t, exec (.faultAck (faultKindCode k)) s = .next t ∧ t.alertPin = false) ∧
    (∀ l : LinkState, ({ s with link := l } : State).alertPin = s.alertPin) ∧
    (FullReset s → s.alertPin = false ∧ s.attentionPin = false) ∧
    (s.attentionPin = true ↔
      s.link.enables.getLsbD 0 = true ∧ s.pool.completed ≠ [] ∨
      s.link.enables.getLsbD 1 = true ∧
        (∃ (i : Slot) (r : Ring), s.ring i = some r ∧ 0 < r.watermark ∧ r.watermark ≤ r.used) ∨
      s.link.enables.getLsbD 2 = true ∧ s.link.surveyDone = true ∨
      s.link.enables.getLsbD 3 = true ∧ s.link.faultLatch = true ∨
      s.link.enables.getLsbD 4 = true ∧ (∃ i : Slot, s.isChanged i = true))

/-! ## The line's events -/

/-- R32: a frame that ends passes its transaction on: an addressed one to WAIT, a start bit to RECEIVE, a CALL to its
contest, another broadcast to SPACE (a SKIP's round is served); the nodes that took the frame whole act on it. The end
of a frame of a survey that was told to stop is its frame boundary (R63, StoppedWorkIsNotJudged; which moments are
frame boundaries is the model's choice, log entry 15). Which nodes missed the frame is the command's operand, and a
contest that begins in a stuck episode is broken (the model's choices, log entries 19 and 21). -/
def Obligations.FramesPassOn : Prop :=
  ∀ (s : State) (x : Transaction) (missed : List Nat), s.start.phase = .running → s.line.txn = some x →
    (x.phase = .send → x.frame.target.isSome = true →
      exec (.commandSent missed) s =
        .next (frameBoundary ((s.nodesHear x.frame missed).setTxn (some { x with phase := .wait })))) ∧
    (x.phase = .wait → exec .answerStart s = .next (s.setTxn (some { x with phase := .receive }))) ∧
    (x.phase = .send → x.frame.target = none → x.frame.command = .call →
      exec (.broadcastFrameEnd missed) s =
        .next
          ((s.nodesHear x.frame missed).setTxn (some { x with phase := .contest, contestBroken := s.line.stuck }))) ∧
    (x.phase = .send → x.frame.target = none → x.frame.command ≠ .call → x.user ≠ .survey →
      exec (.broadcastFrameEnd missed) s =
        .next (frameBoundary ((s.nodesHear x.frame missed).setTxn (some { x with phase := .space })))) ∧
    (∀ r, x.phase = .send → x.frame.target = none → x.frame.command = .skip → x.user = .survey →
      s.survey.stopping = false → s.survey.round = some r → r.phase = .skip →
        exec (.broadcastFrameEnd missed) s =
          .next
            (((s.nodesHear x.frame missed).setTxn (some { x with phase := .space })).setRound
              (some { r with closing := some .served })))

/-- A poll with no answer, and one that ends broken, by an answer that fails its check or does not fit, by a 21st
character or by a collision: BAD_CHECK or COLLISION is raised first, then NO_ANSWER. An ACTIVE entry below its last miss
counts it, a PAUSED one counts none, and at the miss limit the entry passes to LOST, with its gate closed, its slot in
the change set and out of the due set, and NODE_LOST is raised. Under HOLD too the event is whole before the hold is
taken (R146, OccurrencesAreRecorded; log entry 25). -/
def Obligations.UnansweredPollsAreMisses : Prop :=
  ∀ (s : State) (x : Transaction) (i : Slot), s.start.phase = .running → s.line.txn = some x → x.aborted = none →
    x.user = .poll → x.frame.target = some i → (s.entry i).state = .active ∨ (s.entry i).state = .paused →
    s.noHoldAsked →
      let spaced := s.setTxn (some { x with phase := .space })
      let missed (u : State) : State :=
        if (s.entry i).state = .paused then raise .noAnswer (slotByte i) 0 u
        else if (s.entry i).missCount + 1 < s.sched.missLimit then
          raise .noAnswer (slotByte i) (BitVec.ofNat 8 ((s.entry i).missCount + 1))
            (u.setEntry i { s.entry i with missCount := (s.entry i).missCount + 1 })
        else
          raise .nodeLost (slotByte i) (BitVec.ofNat 8 s.sched.missLimit)
            ((((raise .noAnswer (slotByte i) (BitVec.ofNat 8 s.sched.missLimit) u).setEntry i
              { s.entry i with state := .lost, missCount := 0, gateOpen := false }).setDue i false).addChange i)
      (x.phase = .wait → exec .answerWindowExpiry s = .next (takeHold (missed spaced))) ∧
      (s.survey.stopping = false →
        (∀ chars, x.phase = .receive →
          judgeAnswer x.frame.command ((s.entry i).descriptor.map fun d => d.reportLength) chars = .broken →
            exec (.answerReceived chars) s =
              .next
                (takeHold (missed (raise .badCheck (slotByte i) (commandCode x.frame.command) spaced.nodesLeave)))) ∧
        (x.phase = .receive →
          exec .twentyFirstCharacter s =
            .next (takeHold (missed (raise .badCheck (slotByte i) (commandCode x.frame.command) spaced)))) ∧
        (x.phase = .send ∨ x.phase = .receive →
          exec .collision s =
            .next (takeHold (missed (raise .collision (slotByte i) (commandCode x.frame.command) spaced)))))

/-- A good POLL answer of a polled entry: no misses, the alarm as answered, and NODE_ALARM raised with the sequence as
detail where the alarm rises; without a report nothing more; a repeated sequence is a duplicate, whether the entry has a
ring or not; another report is taken, its gap counted and raised as SEQUENCE_GAP with the number missed as detail, and
with no ring it is counted as unrouted. Under HOLD too the event is whole before the hold is taken (R146,
OccurrencesAreRecorded; log entry 25). -/
def Obligations.PollAnswersAreTaken : Prop :=
  ∀ (s : State) (x : Transaction) (i : Slot) (chars payload : List Byte) (status sequence : Byte),
    s.onLine x .receive → x.user = .poll → x.frame.target = some i → s.survey.stopping = false →
    (s.entry i).state = .active ∨ (s.entry i).state = .paused → s.noHoldAsked →
    judgeAnswer x.frame.command ((s.entry i).descriptor.map fun d => d.reportLength) chars =
      .good status (sequence :: payload) →
      let alarmed :=
        if alarmFlag status = true ∧ (s.entry i).nodeAlarm = false then raise .nodeAlarm (slotByte i) sequence s else s
      let gapped :=
        match (s.entry i).lastSequence with
        | some q => if sequence = q + 1 then alarmed else raise .sequenceGap (slotByte i) (sequence - q - 1) alarmed
        | none => alarmed
      (hasReport status = true → (s.entry i).lastSequence ≠ some sequence → s.ring i = none) →
      ∃ t, exec (.answerReceived chars) s = .next (takeHold t) ∧ t.line = { s.line with txn := some { x with phase := .space } } ∧
        (∀ j : Slot, j ≠ i → t.entry j = s.entry j) ∧ t.store = s.store ∧ t.pool = s.pool ∧ t.survey = s.survey ∧
        t.sched = s.sched ∧ t.settings = s.settings ∧ t.start = s.start ∧ t.nodes = s.nodes.map departed ∧
        t.dir.bindings = s.dir.bindings ∧ t.dir.changes = s.dir.changes ∧
        (hasReport status = false →
          t.entry i = { s.entry i with missCount := 0, nodeAlarm := alarmFlag status } ∧
            t.faults = alarmed.faults ∧ t.link = alarmed.link) ∧
        (hasReport status = true → (s.entry i).lastSequence = some sequence →
          t.entry i =
            { s.entry i with
              missCount := 0, nodeAlarm := alarmFlag status, duplicates := satAdd (s.entry i).duplicates 1 } ∧
            t.faults = alarmed.faults ∧ t.link = alarmed.link) ∧
        (hasReport status = true → (s.entry i).lastSequence ≠ some sequence →
          t.entry i =
            { s.entry i with
              missCount := 0
              nodeAlarm := alarmFlag status
              reportsTaken := satAdd (s.entry i).reportsTaken 1
              lastSequence := some sequence
              gaps :=
                if gapSeen (s.entry i).lastSequence sequence then satAdd (s.entry i).gaps 1 else (s.entry i).gaps
              unrouted := satAdd (s.entry i).unrouted 1 } ∧
            t.faults = gapped.faults ∧ t.link = gapped.link)

/-- A report that is taken goes to the entry's ring, after the intake's own occurrences. A record with room for it: its
bytes lie at the write offset, the descriptor counts it, and every byte of report memory outside those offsets reads as
before. R98: a KEEP_OLD ring refuses a record that does not fit: refused rises, the pending-loss mark is set,
RING_OVERFLOW is raised with detail 1, and every byte of report memory reads as before. R99: a KEEP_NEW ring discards as
few of its oldest records as free the room, k of them: discarded rises by k, one RING_OVERFLOW is raised with detail k,
the oldest record left takes the loss-before flag, or the new one where none is left, and the new one is stored. Under
HOLD too the event is whole before the hold is taken (R146, OccurrencesAreRecorded; log entry 25). -/
def Obligations.ReportsAreStoredOrRefused : Prop :=
  (∀ (s : State) (x : Transaction) (i : Slot) (r : Ring) (chars payload : List Byte) (status sequence : Byte),
      s.onLine x .receive → x.user = .poll → x.frame.target = some i → s.survey.stopping = false →
      (s.entry i).state = .active ∨ (s.entry i).state = .paused → s.ring i = some r → s.noHoldAsked →
      judgeAnswer x.frame.command ((s.entry i).descriptor.map fun d => d.reportLength) chars =
        .good status (sequence :: payload) →
      hasReport status = true → (s.entry i).lastSequence ≠ some sequence →
        let spaced := s.nodesLeave.setTxn (some { x with phase := .space })
        let alarmed :=
          if alarmFlag status = true ∧ (s.entry i).nodeAlarm = false then raise .nodeAlarm (slotByte i) sequence spaced
          else spaced
        let taken :=
          alarmed.setEntry i
            { s.entry i with
              missCount := 0
              nodeAlarm := alarmFlag status
              reportsTaken := satAdd (s.entry i).reportsTaken 1
              lastSequence := some sequence
              gaps :=
                if gapSeen (s.entry i).lastSequence sequence then satAdd (s.entry i).gaps 1 else (s.entry i).gaps }
        let gapped :=
          match (s.entry i).lastSequence with
          | some q => if sequence = q + 1 then taken else raise .sequenceGap (slotByte i) (sequence - q - 1) taken
          | none => taken
        exec (.answerReceived chars) s =
          .next
            (takeHold
              (appendTo i r
                { sequence
                  timestamp := s.now
                  gap := gapSeen (s.entry i).lastSequence sequence
                  nodeAlarm := alarmFlag status
                  lossBefore := false
                  payload }
                gapped))) ∧
  (∀ (i : Slot) (r : Ring) (rec : ReportRecord) (s : State), memoryLawful s →
      (recordBytes rec).length ≤ r.size - r.used →
        ∃ t, appendTo i r rec s = t ∧
          t.ring i =
            some
              { r with
                used := r.used + (recordBytes rec).length
                count := r.count + 1
                pendingLoss := false
                stored := satAdd r.stored 1 } ∧
          (∀ j : Slot, j ≠ i → t.ring j = s.ring j) ∧
          ringBytes t.store.memory r (recordBytes rec).length r.used = recordBytes { rec with lossBefore := r.pendingLoss } ∧
          (∀ a, ¬ ringSpan r r.used (recordBytes rec).length a →
            Memory.read t.store.memory a = Memory.read s.store.memory a) ∧
          t.faults = s.faults ∧ t.link = s.link ∧ t.dir = s.dir) ∧
  (∀ (i : Slot) (r : Ring) (rec : ReportRecord) (s : State), r.size - r.used < (recordBytes rec).length →
      r.policy = .keepOld →
        appendTo i r rec s =
          raise .ringOverflow (slotByte i) 1
            (s.setRing i (some { r with refused := satAdd r.refused 1, pendingLoss := true }))) ∧
  (∀ (i : Slot) (r : Ring) (rec : ReportRecord) (s : State), r.size - r.used < (recordBytes rec).length →
      (recordBytes rec).length ≤ r.size → r.policy = .keepNew → r.used = afterRecords s.store.memory r r.count 0 →
        ∃ k, 1 ≤ k ∧ k ≤ r.count ∧
          (recordBytes rec).length ≤ r.size - (r.used - afterRecords s.store.memory r k 0) ∧
          (∀ j, j < k → r.size - (r.used - afterRecords s.store.memory r j 0) < (recordBytes rec).length) ∧
          let left := dropRecords s.store.memory k r
          let marked :=
            if k = r.count then s.store.memory
            else
              Memory.write s.store.memory (ringOffset left 5) (ringByte s.store.memory left 5 ||| 0x04)
          appendTo i r rec s =
            raise .ringOverflow (slotByte i) (BitVec.ofNat 8 k)
              ((s.setMemory
                  (ringWrite marked left left.used
                    (recordBytes { rec with lossBefore := r.pendingLoss || decide (k = r.count) }))).setRing i
                (some
                  { left with
                    used := left.used + (recordBytes rec).length
                    count := left.count + 1
                    pendingLoss := false
                    stored := satAdd r.stored 1
                    discarded := satAdd r.discarded k })))

/-- A pool attempt's answers: ACCEPT completes a read, write, test, describe or release DONE; a release frees the entry,
and a describe gives it the descriptor, an UNDESCRIBED one its gate mode by kind too, with the gate closed also where
the host had opened it (DEDUCED, log entry 11); any other status completes REFUSED; an answer that fails its check or
does not fit, and a 21st character, raise BAD_CHECK and leave the request in flight while it has attempts left (for the
third, PoolAttemptsRunOut). Under HOLD too the event is whole before the hold is taken (R146, OccurrencesAreRecorded;
log entry 25). -/
def Obligations.PoolAnswersComplete : Prop :=
  ∀ (s : State) (x : Transaction) (i : Slot) (r : PoolRequest) (chars data : List Byte) (status : Byte),
    s.onLine x .receive → x.user = .pool → x.frame.target = some i → s.pool.inFlight = some r → s.noHoldAsked →
    s.survey.stopping = false →
      let spaced := s.nodesLeave.setTxn (some { x with phase := .space })
      let completed (o : PoolOutcome) (d : List Byte) : Pool :=
        { s.pool with inFlight := none, completed := s.pool.completed ++ [{ request := r, outcome := o, data := d }] }
      let judged := judgeAnswer x.frame.command ((s.entry i).descriptor.map fun d => d.reportLength) chars
      (judged = .good 0x00 data → r.work ≠ .describe → r.work ≠ .release →
        exec (.answerReceived chars) s = .next (spaced.setPool (completed .done (doneData r.work data)))) ∧
      (judged = .good 0x00 data → r.work = .release →
        exec (.answerReceived chars) s =
          .next
            ((((spaced.setPool (completed .done [])).setEntry r.slot Entry.blank).setRing r.slot none).setDue r.slot
              false)) ∧
      (∀ d, judged = .good 0x00 data → r.work = .describe → descriptorOf data = some d →
        exec (.answerReceived chars) s =
          .next
            ((spaced.setPool (completed .done data)).setEntry r.slot
              (match (s.entry r.slot).state with
                | .undescribed =>
                  if (s.entry r.slot).gateSource = .provisional then
                    { s.entry r.slot with
                      descriptor := some d
                      state := .active
                      gateMode := if d.kind = .actuator then .gated else .free
                      gateSource := .kind
                      gateOpen := false }
                  else { s.entry r.slot with descriptor := some d, state := .active }
                | .active => { s.entry r.slot with descriptor := some d }
                | .paused => { s.entry r.slot with descriptor := some d }
                | _ => s.entry r.slot))) ∧
      (judged = .good status data → status ≠ 0x00 →
        exec (.answerReceived chars) s = .next (spaced.setPool (completed .refused [status]))) ∧
      (judged = .broken → r.attempts < 3 →
        exec (.answerReceived chars) s =
          .next (takeHold (raise .badCheck (slotByte i) (commandCode x.frame.command) spaced))) ∧
      (r.attempts < 3 →
        exec .twentyFirstCharacter s =
          .next
            (takeHold
              (raise .badCheck (slotByte i) (commandCode x.frame.command)
                (s.setTxn (some { x with phase := .space })))))

/-- A pool attempt with no answer in its window leaves the request in flight while it has attempts left and completes
it NO_ANSWER at the third; a third attempt that is broken, by its answer, by a 21st character or by a collision,
completes it BROKEN. Under HOLD too the event is whole before the hold is taken (R146, OccurrencesAreRecorded; log
entry 25). At the end of SPACE the request in flight makes its further attempt, before any grant and any KEEP. A
request whose entry is FREE or LOST at its start completes NODE_GONE or NODE_LOST without one. -/
def Obligations.PoolAttemptsRunOut : Prop :=
  (∀ (s : State) (x : Transaction) (i : Slot) (r : PoolRequest), s.start.phase = .running → s.line.txn = some x →
      x.aborted = none → x.user = .pool → x.frame.target = some i → s.pool.inFlight = some r → s.noHoldAsked →
      s.survey.stopping = false →
        let spaced := s.setTxn (some { x with phase := .space })
        let completed (o : PoolOutcome) : Pool :=
          { s.pool with inFlight := none, completed := s.pool.completed ++ [{ request := r, outcome := o, data := [] }] }
        (x.phase = .wait → r.attempts < 3 → exec .answerWindowExpiry s = .next spaced) ∧
        (x.phase = .wait → 3 ≤ r.attempts → exec .answerWindowExpiry s = .next (spaced.setPool (completed .noAnswer))) ∧
        (∀ chars, x.phase = .receive → 3 ≤ r.attempts →
          judgeAnswer x.frame.command ((s.entry i).descriptor.map fun d => d.reportLength) chars = .broken →
            exec (.answerReceived chars) s =
              .next
                (takeHold
                  ((raise .badCheck (slotByte i) (commandCode x.frame.command) spaced.nodesLeave).setPool
                    (completed .broken)))) ∧
        (x.phase = .receive → 3 ≤ r.attempts →
          exec .twentyFirstCharacter s =
            .next
              (takeHold
                ((raise .badCheck (slotByte i) (commandCode x.frame.command) spaced).setPool (completed .broken)))) ∧
        (x.phase = .send ∨ x.phase = .receive → 3 ≤ r.attempts →
          exec .collision s =
            .next
              (takeHold
                ((raise .collision (slotByte i) (commandCode x.frame.command) spaced).setPool (completed .broken))))) ∧
  (∀ (s : State) (x : Transaction) (r : PoolRequest), s.start.phase = .running → s.line.txn = some x →
      x.phase = .space → x.user ≠ .owed → x.user ≠ .survey → s.noHoldAsked → s.wireHeld = false → s.line.owed = [] →
        let free := s.nodesLeave.setTxn none
        (s.line.state = .running ∨ s.line.state = .survey → s.pool.inFlight = some r →
          exec .spaceEnd s =
            .next
              (beginFrame (requestFrameOf r) .pool
                (free.setPool { s.pool with inFlight := some { r with attempts := r.attempts + 1 } }))) ∧
        (s.line.state = .running → s.pool.inFlight = none → s.line.keepWaiting = false → s.pool.queued = [r] →
          s.lowestDue = none →
          ((s.entry r.slot).state = .free →
            exec .spaceEnd s =
              .next
                ((free.setLine { free.line with lastGrant := .pool }).setPool
                  { queued := []
                    inFlight := none
                    completed := s.pool.completed ++ [{ request := r, outcome := .nodeGone, data := [] }] })) ∧
          ((s.entry r.slot).state = .lost →
            exec .spaceEnd s =
              .next
                ((free.setLine { free.line with lastGrant := .pool }).setPool
                  { queued := []
                    inFlight := none
                    completed := s.pool.completed ++ [{ request := r, outcome := .nodeLost, data := [] }] }))))

/-- R44: a collision in SEND or RECEIVE ends the transaction and raises COLLISION. For a pool attempt with attempts left
(for the third, PoolAttemptsRunOut), and for a broadcast that is no survey frame, nothing more comes of it; a SKIP's
round is served; a SEAT or DESC attempt is not good, and the third one brings the clearing UNSEAT or the end of the
describe phase; a clearing UNSEAT's round ends as a failed one. (For polls, UnansweredPollsAreMisses; for a CALL,
RoundsAndSurveysEnd; for an aborted transaction, StoppedWorkIsNotJudged.) The first collision of a SPACE is raised, and
a further one in the same SPACE changes nothing. Under HOLD too the event is whole before the hold is taken (R146,
OccurrencesAreRecorded; log entry 25). That a SPACE raises one is DEDUCED (log entry 18). With no transaction on the
line nothing is raised: no frame begins until the line is recessive again (the command's use there is the model's
choice, log entry 29). -/
def Obligations.CollisionsAreRaised : Prop :=
  (∀ (s : State) (x : Transaction), s.start.phase = .running → s.line.txn = some x → s.noHoldAsked →
        (∀ (i : Slot) (r : PoolRequest), x.phase = .send ∨ x.phase = .receive → x.user = .pool →
          x.aborted = none → x.frame.target = some i → s.pool.inFlight = some r → r.attempts < 3 →
          s.survey.stopping = false →
            exec .collision s =
              .next
                (takeHold
                  (raise .collision (slotByte i) (commandCode x.frame.command)
                    (s.setTxn (some { x with phase := .space }))))) ∧
        (x.phase = .send → x.frame.target = none → x.user ≠ .survey → s.survey.stopping = false →
          exec .collision s =
            .next
              (takeHold
                (raise .collision 0 (commandCode x.frame.command) (s.setTxn (some { x with phase := .space }))))) ∧
        (∀ r, x.phase = .send → x.user = .survey → x.frame = { command := .skip, target := none, data := [] } →
          s.survey.round = some r → r.phase = .skip → s.survey.stopping = false →
            exec .collision s =
              .next
                (takeHold
                  ((raise .collision 0 (commandCode .skip) (s.setTxn (some { x with phase := .space }))).setRound
                    (some { r with closing := some .served })))) ∧
        (∀ (i : Slot) (r : Round), x.phase = .send ∨ x.phase = .receive → x.user = .survey → x.aborted = none →
          x.frame.target = some i → s.survey.round = some r → s.survey.stopping = false →
            let raised :=
              raise .collision (slotByte i) (commandCode x.frame.command) (s.setTxn (some { x with phase := .space }))
            (r.phase = .seat →
              exec .collision s =
                .next
                  (takeHold
                    (if r.attempts < 3 then raised
                    else raised.setRound (some { r with phase := .clear, attempts := 0 })))) ∧
            (r.phase = .describe → r.chosen = some i →
              exec .collision s =
                .next
                  (takeHold
                    (if r.attempts < 3 then raised
                    else
                      (raised.setSurvey
                        { s.survey with
                          record := { s.survey.record with undescribed := s.survey.record.undescribed + 1 }
                          round := some { r with closing := some .served } }).addChange i))) ∧
            (r.phase = .clear →
              exec .collision s = .next (takeHold (raised.setRound (some { r with closing := some .failed }))))) ∧
        (x.phase = .space → x.spaceHit = false →
          exec .collision s =
            .next
              (takeHold
                (raise .collision (frameAddress x.frame) (commandCode x.frame.command)
                  (s.setTxn (some { x with spaceHit := true }))))) ∧
        (x.phase = .space → x.spaceHit = true → exec .collision s = .next s)) ∧
  (∀ s : State, s.start.phase = .running → s.line.txn = none →
      (s.line.stuck = false → exec .collision s = .next (s.setLine { s.line with dominant := true })) ∧
      (s.line.stuck = true → exec .collision s = .next s))

/-- When SPACE ends an owed send goes on with its next frame; with its last one it leaves the list, and the third HALT
of a line that is HELD starts the HALT repeat timer (unless another HALT is owed, DEDUCED, log entry 27), and the third
UNSEAT_ALL clears the directory, the rings and the due set, in every line state. Then the line is free: the next owed
send begins; in OFF nothing more; in HELD a HALT repeat that waited; in RUNNING, with no further attempt to make, a
KEEP that waited (before a grant of what came to wait after it: the model's choice, log entry 17), else the arbiter
grants a poll of the lowest due slot, with the acknowledgement in its data, or the head of the queue, and alternates
where both wait; in SURVEY the first CALL, once the reply to SURVEY has been sent (DEDUCED, log entry 36). For a
further attempt of the request in flight, and one whose entry is FREE or LOST, see PoolAttemptsRunOut; for the SPACE of
a survey's frame, SeatAttemptsAreJudged, DescribePhasesEnd and RoundsAndSurveysEnd. -/
def Obligations.SpaceEndsFreeTheLine : Prop :=
  (∀ (s : State) (x : Transaction) (o : OwedSend) (rest : List OwedSend), s.start.phase = .running →
      s.line.txn = some x → x.phase = .space → s.noHoldAsked → s.wireHeld = false → x.user = .owed →
      s.line.owed = o :: rest → o.framesBegun < owedFrames o.command →
        exec .spaceEnd s = .next (beginOwed o rest (s.nodesLeave.setTxn none))) ∧
  (∀ (s : State) (x : Transaction) (t : State), s.start.phase = .running → s.line.txn = some x → x.phase = .space →
      s.noHoldAsked → s.wireHeld = false →
      (let free := s.nodesLeave.setTxn none
        let left (rest : List OwedSend) : State := free.setLine { free.line with owed := rest }
        x.user ≠ .owed ∧ x.user ≠ .survey ∧ t = free ∨
          ∃ o rest, x.user = .owed ∧ s.line.owed = o :: rest ∧ owedFrames o.command ≤ o.framesBegun ∧
            t =
              match o.command with
              | .close => left rest
              | .go => left rest
              | .halt =>
                if s.line.state = .held ∧ ∀ p ∈ rest, p.command ≠ .halt then
                  free.setLine { free.line with owed := rest, haltTimer := true }
                else left rest
              | .unseatAll =>
                { left rest with
                  dir := { s.dir with entries := allCells 32 Entry.blank, changes := allCells 32 false }
                  store := { s.store with rings := allCells 32 none }
                  sched := { s.sched with due := allCells 32 false } }) →
        (∀ p later, t.line.owed = p :: later → exec .spaceEnd s = .next (beginOwed p later t)) ∧
        (t.line.owed = [] →
          (s.line.state = .off → exec .spaceEnd s = .next t) ∧
          (s.line.state = .held →
            exec .spaceEnd s =
              .next
                (if s.line.haltWaiting then
                  beginFrame { command := .halt, target := none, data := [] } .haltRepeat t
                else t)) ∧
          (s.line.state = .running → s.pool.inFlight = none → s.line.keepWaiting = true →
            exec .spaceEnd s = .next (beginFrame { command := .keep, target := none, data := [] } .keepAlive t)) ∧
          (s.line.state = .running → s.line.keepWaiting = false → s.pool.inFlight = none →
            (s.pool.queued = [] → (∀ i : Slot, t.isDue i = false) → exec .spaceEnd s = .next t) ∧
            (∀ i : Slot, t.isDue i = true → (∀ j : Slot, j < i → t.isDue j = false) →
              s.pool.queued = [] ∨ s.line.lastGrant = .pool →
                exec .spaceEnd s =
                  .next
                    (beginFrame
                      { command := .poll
                        target := some i
                        data := match (t.entry i).lastSequence with | some q => [0x01, q] | none => [0x00, 0x00] }
                      .poll ((t.setDue i false).setLine { t.line with lastGrant := .poll }))) ∧
            (∀ r rest, s.pool.queued = r :: rest → (∀ i : Slot, t.isDue i = false) ∨ s.line.lastGrant = .poll →
              (t.entry r.slot).state ≠ .free → (t.entry r.slot).state ≠ .lost →
                exec .spaceEnd s =
                  .next
                    (beginFrame (requestFrameOf r) .pool
                      ((t.setLine { t.line with lastGrant := .pool }).setPool
                        { s.pool with queued := rest, inFlight := some { r with attempts := r.attempts + 1 } })))) ∧
          (s.line.state = .survey → s.pool.inFlight = none →
            (s.surveyReplyOwed = true → exec .spaceEnd s = .next t) ∧
            (s.surveyReplyOwed = false → s.survey.round = none →
              exec .spaceEnd s =
                .next
                  (beginFrame { command := .call, target := none, data := [] } .survey
                    (t.setSurvey
                      { s.survey with
                        record := { s.survey.record with roundsRun := s.survey.record.roundsRun + 1 }
                        round := some freshRound }))))))

/-- When its timer runs out a KEEP begins in RUNNING, where no poll, request or further attempt waits for the line
(R36, R79), and one HALT in HELD, on a free line; while the line is held dominant each waits, and a HALT waits too
where a SPACE stands. A stuck episode raises LINE_STUCK once, for slot 0 with detail 0, breaks a contest, and ends; a
frame that waited then begins, a further attempt before any KEEP (R114), as it does when a shorter dominance outside a
transaction ends. Under HOLD too the event is whole before the hold is taken (R146, OccurrencesAreRecorded; log entry
25). The waiting marks, the order of what waits, the broken contest, and the commands that carry a dominance under 40
bit times, are the model's choices (log entries 17, 19 and 29). -/
def Obligations.RepeatsAndStuckEpisodes : Prop :=
  (∀ s : State, s.start.phase = .running → s.line.owed = [] →
      (s.line.state = .running → s.line.silence = true → s.pool.inFlight = none → s.pool.queued = [] →
        (∀ i : Slot, s.isDue i = false) →
          (s.lineAllows = true →
            exec .keep s = .next (beginFrame { command := .keep, target := none, data := [] } .keepAlive s)) ∧
          (s.wireHeld = true → (∀ x, s.line.txn = some x → x.phase = .space) →
            exec .keep s = .next (s.setLine { s.line with keepWaiting := true }))) ∧
      (s.line.state = .running →
        s.pool.inFlight ≠ none ∨ s.pool.queued ≠ [] ∨ (∃ i : Slot, s.isDue i = true) → exec .keep s = .next s) ∧
      (s.line.state = .held → s.line.haltTimer = true → s.lineAllows = true →
        exec .haltRepeat s = .next (beginFrame { command := .halt, target := none, data := [] } .haltRepeat s)) ∧
      (s.line.state = .held → s.line.haltTimer = true → s.lineAllows = false →
        (∀ x, s.line.txn = some x → x.phase = .space) →
          exec .haltRepeat s = .next (s.setLine { s.line with haltWaiting := true }))) ∧
  (∀ s : State, s.start.phase = .running → s.noHoldAsked →
      (s.line.stuck = true → exec .lineStuck s = .next s) ∧
      (s.line.stuck = false → (∀ x, s.line.txn = some x → x.phase ≠ .contest) →
        exec .lineStuck s =
          .next (takeHold (raise .lineStuck 0 0 (s.setLine { s.line with stuck := true, dominant := false })))) ∧
      (∀ x, s.line.stuck = false → s.line.txn = some x → x.phase = .contest →
        exec .lineStuck s =
          .next
            (takeHold
              (raise .lineStuck 0 0
                (s.setLine
                  { s.line with stuck := true, dominant := false, txn := some { x with contestBroken := true } }))))) ∧
  (∀ s : State, s.start.phase = .running → s.noHoldAsked → s.line.txn = none →
      let clear := s.setLine { s.line with stuck := false, dominant := false }
      (s.line.owed = [] → s.line.state = .off →
        (s.line.stuck = true → exec .stuckEpisodeEnd s = .next clear) ∧
        (s.line.stuck = false → s.line.dominant = true → exec .spaceEnd s = .next clear)) ∧
      (∀ o rest, s.line.owed = o :: rest →
        (s.line.stuck = true → exec .stuckEpisodeEnd s = .next (beginOwed o rest clear)) ∧
        (s.line.stuck = false → s.line.dominant = true → exec .spaceEnd s = .next (beginOwed o rest clear))) ∧
      (∀ r, s.line.stuck = true → s.line.owed = [] → s.line.state = .running ∨ s.line.state = .survey →
        s.pool.inFlight = some r →
          exec .stuckEpisodeEnd s =
            .next
              (beginFrame (requestFrameOf r) .pool
                (clear.setPool { s.pool with inFlight := some { r with attempts := r.attempts + 1 } }))) ∧
      (s.line.stuck = true → s.line.owed = [] → s.line.state = .running → s.pool.inFlight = none →
        s.line.keepWaiting = true →
        exec .stuckEpisodeEnd s = .next (beginFrame { command := .keep, target := none, data := [] } .keepAlive clear)) ∧
      (s.line.stuck = true → s.line.owed = [] → s.line.state = .held → s.line.haltWaiting = true →
        exec .stuckEpisodeEnd s =
          .next (beginFrame { command := .halt, target := none, data := [] } .haltRepeat clear)))

/-- R34, R63: nothing more is judged of an aborted transaction: its answer, its window and its 21st character bring no
outcome and no fault. A collision in SEND, or in RECEIVE where the abort was taken there, still raises its fault; one
in an answer to a transaction aborted before it began changes nothing, because none of that answer is read. The contest
of a survey that was told to stop is not judged. Under HOLD too that is so before the hold is taken
(OccurrencesAreRecorded, log entry 25). Such a survey stops at the end of its frame, answer or contest; a survey that
has begun no round has none of these on the line, also where the last frame of a survey stopped before still is. Which
moments are frame boundaries, and that a describe phase cut short does not add its slot to the change set again, are
the model's choices (log entries 15 and 35); that the 21st character of an aborted answer brings nothing is DEDUCED
(log entry 20). -/
def Obligations.StoppedWorkIsNotJudged : Prop :=
  (∀ (s : State) (x : Transaction), s.start.phase = .running → s.line.txn = some x → x.aborted.isSome = true →
      s.noHoldAsked →
      let spaced := s.setTxn (some { x with phase := .space })
      (∀ chars, x.phase = .receive → exec (.answerReceived chars) s = .next (frameBoundary spaced.nodesLeave)) ∧
      (x.phase = .wait → exec .answerWindowExpiry s = .next spaced) ∧
      (x.phase = .receive → exec .twentyFirstCharacter s = .next s) ∧
      ((x.phase = .send ∧ x.frame.target.isSome = true) ∨ (x.phase = .receive ∧ x.aborted = some .receive) →
        exec .collision s =
          .next
            (takeHold
              (raise .collision (frameAddress x.frame) (commandCode x.frame.command) (frameBoundary spaced)))) ∧
      (x.phase = .receive → x.aborted ≠ some .receive → exec .collision s = .next s)) ∧
  (∀ (s : State) (x : Transaction) (lead : BitVec 2) (slots : BitVec 168), s.start.phase = .running →
      s.line.txn = some x → x.phase = .contest → s.survey.stopping = true → s.noHoldAsked →
        let broken := s.contestHit lead slots || x.contestBroken
        let spaced := (s.nodesContend (s.contestReading slots)).setTxn (some { x with phase := .space })
        (broken = false → exec (.contestEnd lead slots) s = .next (frameBoundary spaced)) ∧
        (broken = true →
          exec (.contestEnd lead slots) s =
            .next
              (takeHold
                (frameBoundary (raise .badCheck (frameAddress x.frame) (commandCode x.frame.command) spaced))))) ∧
  (∀ s : State,
      (s.survey.round = none → s.surveyFrameRuns = false) ∧ (s.survey.stopping = false → frameBoundary s = s) ∧
      (s.survey.stopping = true →
        surveyStopped s (frameBoundary s) ∧ (frameBoundary s).line = s.line ∧ (frameBoundary s).dir = s.dir ∧
          (frameBoundary s).sched = s.sched ∧ (frameBoundary s).store = s.store ∧ (frameBoundary s).pool = s.pool ∧
          (frameBoundary s).faults = s.faults ∧ (frameBoundary s).nodes = s.nodes ∧
          (frameBoundary s).start = s.start ∧ (frameBoundary s).settings = s.settings))

/-! ## Surveys -/

/-- A contest reading goes into the round state and is judged: a broken one raises BAD_CHECK and fails the round; an
invalid or mismatched one fails it; a winner's slot is chosen, and the SEAT phase begins; with no slot to give
DIRECTORY_FULL is raised and the SKIP phase begins. Under HOLD too the event is whole before the hold is taken (R146,
OccurrencesAreRecorded; log entry 25). The slot choice: the slot of the entry that holds the identity, else the FREE
slot bound to it, else the lowest FREE slot that no binding names, else none. That the part and every node read one
line, with what pulls it low beside the contending nodes as the command's operand, is the model's choice (log entry
21), and so is a contest that a stuck line breaks (log entry 19); for a survey that was told to stop,
StoppedWorkIsNotJudged. -/
def Obligations.ContestReadingsAndSlotChoice : Prop :=
  (∀ (s : State) (x : Transaction) (r : Round) (lead : BitVec 2) (slots : BitVec 168), s.start.phase = .running →
      s.line.txn = some x → x.phase = .contest → s.survey.round = some r → r.phase = .contest →
      s.survey.stopping = false → s.noHoldAsked →
        let levels := s.contestReading slots
        let broken := s.contestHit lead slots || x.contestBroken
        let reading : Reading := .clean (readingIdentity levels) (readingCheck levels)
        let spaced := (s.nodesContend levels).setTxn (some { x with phase := .space })
        (broken = true →
          exec (.contestEnd lead slots) s =
            .next
              (takeHold
                ((raise .badCheck (frameAddress x.frame) (commandCode x.frame.command) spaced).setRound
                  (some { r with reading := some .broken, closing := some .failed })))) ∧
        (broken = false → levels ≠ 0 →
          readingIdentity levels = 0 ∨ crc8 (identityBytes (readingIdentity levels)) ≠ readingCheck levels →
            exec (.contestEnd lead slots) s =
              .next (spaced.setRound (some { r with reading := some reading, closing := some .failed }))) ∧
        (∀ (w : Identity) (i : Slot), broken = false → w ≠ 0 → levels = contestWord w →
          s.slotChoice w = some i →
            exec (.contestEnd lead slots) s =
              .next
                (spaced.setRound
                  (some
                    { r with
                      phase := .seat
                      reading := some (.clean w (crc8 (identityBytes w)))
                      chosen := some i
                      attempts := 0 }))) ∧
        (∀ w : Identity, broken = false → w ≠ 0 → levels = contestWord w → s.slotChoice w = none →
            exec (.contestEnd lead slots) s =
              .next
                (takeHold
                  (raise .directoryFull 0 (BitVec.ofNat 8 w.toNat)
                    (spaced.setRound
                      (some
                        { r with
                          phase := .skip
                          reading := some (.clean w (crc8 (identityBytes w)))
                          chosen := none
                          attempts := 0 })))))) ∧
  (∀ (s : State) (w : Identity),
      (∀ i : Slot, (s.entry i).state ≠ .free → (s.entry i).identity = some w →
        ∃ j : Slot, s.slotChoice w = some j ∧ (s.entry j).state ≠ .free ∧ (s.entry j).identity = some w) ∧
      (∀ i : Slot, (∀ j : Slot, (s.entry j).state ≠ .free → (s.entry j).identity ≠ some w) → (s.entry i).state = .free →
        cell s.dir.bindings i = some w →
          ∃ j : Slot, s.slotChoice w = some j ∧ (s.entry j).state = .free ∧ cell s.dir.bindings j = some w) ∧
      (∀ i : Slot, (∀ j : Slot, (s.entry j).state ≠ .free → (s.entry j).identity ≠ some w) →
        (∀ j : Slot, (s.entry j).state = .free → cell s.dir.bindings j ≠ some w) →
        (s.entry i).state = .free → cell s.dir.bindings i = none →
          ∃ j : Slot, s.slotChoice w = some j ∧ j ≤ i ∧ (s.entry j).state = .free ∧ cell s.dir.bindings j = none) ∧
      ((∀ j : Slot, (s.entry j).state ≠ .free → (s.entry j).identity ≠ some w) →
        (∀ j : Slot, (s.entry j).state = .free → (∃ y, y ≠ w ∧ cell s.dir.bindings j = some y)) →
          s.slotChoice w = none))

/-- The SEAT phase. At the end of SPACE the next attempt begins, or after three the clearing UNSEAT. A good answer,
ACCEPT with the check byte read, seats a new node in a FREE entry, or rejoins the entry of a node, with IDENTITY_REPEAT
and the state before as detail where it was not LOST (R58; that the claim on an entry that is not FREE is a rejoin
whatever identity it holds is DEDUCED, log entry 31: by IdentitiesAndBindingsStayApart it holds the winner's); the
round goes on to describe it, and the failures in a row return to 0. Every other outcome, a 21st character among them,
leaves all as it was for the next attempt, and after the third the clearing UNSEAT follows; whatever its outcome, the
round ends as a failed one. Under HOLD too the event is whole before the hold is taken (R146, OccurrencesAreRecorded;
log entry 25). -/
def Obligations.SeatAttemptsAreJudged : Prop :=
  (∀ (s : State) (x : Transaction) (i : Slot) (r : Round), s.start.phase = .running → s.line.txn = some x →
      x.phase = .space → x.user = .survey → s.line.state = .survey → s.survey.round = some r → r.chosen = some i →
      r.closing = none → s.noHoldAsked → s.wireHeld = false → s.line.owed = [] → s.pool.inFlight = none →
      s.surveyReplyOwed = false →
        let free := s.nodesLeave.setTxn none
        (r.phase = .seat →
          exec .spaceEnd s =
            .next
              (beginFrame { command := .seat, target := some i, data := [] } .survey
                (free.setRound (some { r with attempts := r.attempts + 1 })))) ∧
        (r.phase = .clear →
          exec .spaceEnd s = .next (beginFrame { command := .unseat, target := some i, data := [] } .survey free))) ∧
  (∀ (s : State) (x : Transaction) (i : Slot) (r : Round) (w : Identity) (check : Byte) (chars : List Byte),
      s.onLine x .receive → x.user = .survey → x.frame.target = some i → s.survey.round = some r → r.phase = .seat →
      r.chosen = some i → r.reading = some (.clean w check) → s.survey.stopping = false → s.noHoldAsked →
        let spaced := s.nodesLeave.setTxn (some { x with phase := .space })
        let joined (e : EntryState) : State :=
          (((spaced.setEntry i
            { s.entry i with
              state := .undescribed, descriptor := none, lastSequence := none, missCount := 0, nodeAlarm := false,
              gateOpen := false, rejoins := satAdd (s.entry i).rejoins 1 }).setDue i false).addChange i).setSurvey
            { record := { s.survey.record with rejoined := s.survey.record.rejoined + 1 }
              round := some { r with phase := .describe, attempts := 0, prior := some e }
              failures := 0
              stopping := false }
        let judged := judgeAnswer x.frame.command ((s.entry i).descriptor.map fun d => d.reportLength) chars
        (judged = .good 0x00 [check] →
          ((s.entry i).state = .free →
            exec (.answerReceived chars) s =
              .next
                (((spaced.setEntry i
                  { Entry.blank with
                    state := .undescribed, identity := some w, seatedAt := some s.now }).addChange i).setSurvey
                  { record := { s.survey.record with newSeated := s.survey.record.newSeated + 1 }
                    round := some { r with phase := .describe, attempts := 0, prior := none }
                    failures := 0
                    stopping := false })) ∧
          ((s.entry i).state = .lost → exec (.answerReceived chars) s = .next (joined .lost)) ∧
          (∀ e, (s.entry i).state = e → e ≠ .free → e ≠ .lost →
            exec (.answerReceived chars) s =
              .next (takeHold (raise .identityRepeat (slotByte i) (entryStateCode e) (joined e))))) ∧
        (judged ≠ .good 0x00 [check] → judged ≠ .broken →
          exec (.answerReceived chars) s =
            .next
              (if r.attempts < 3 then spaced else spaced.setRound (some { r with phase := .clear, attempts := 0 }))) ∧
        (judged = .broken →
          exec (.answerReceived chars) s =
            .next
              (takeHold
                (let raised := raise .badCheck (slotByte i) (commandCode x.frame.command) spaced
                if r.attempts < 3 then raised else raised.setRound (some { r with phase := .clear, attempts := 0 }))))) ∧
  (∀ (s : State) (x : Transaction) (i : Slot) (r : Round), s.onLine x .wait → x.user = .survey →
      x.frame.target = some i → s.survey.round = some r → s.survey.stopping = false → s.noHoldAsked →
        let spaced := s.setTxn (some { x with phase := .space })
        (r.phase = .seat →
          exec .answerWindowExpiry s =
            .next
              (if r.attempts < 3 then spaced else spaced.setRound (some { r with phase := .clear, attempts := 0 }))) ∧
        (r.phase = .clear →
          exec .answerWindowExpiry s = .next (spaced.setRound (some { r with closing := some .failed })))) ∧
  (∀ (s : State) (x : Transaction) (i : Slot) (r : Round) (chars : List Byte), s.onLine x .receive → x.user = .survey →
      x.frame.target = some i → s.survey.round = some r → r.phase = .clear → s.survey.stopping = false →
      s.noHoldAsked →
        let spaced := s.nodesLeave.setTxn (some { x with phase := .space })
        exec (.answerReceived chars) s =
          .next
            (takeHold
              ((if judgeAnswer x.frame.command ((s.entry i).descriptor.map fun d => d.reportLength) chars = .broken then
                  raise .badCheck (slotByte i) (commandCode x.frame.command) spaced
                else spaced).setRound
                (some { r with closing := some .failed })))) ∧
  (∀ (s : State) (x : Transaction) (i : Slot) (r : Round), s.onLine x .receive → x.user = .survey →
      x.frame.target = some i → s.survey.round = some r → s.survey.stopping = false → s.noHoldAsked →
        let raised :=
          raise .badCheck (slotByte i) (commandCode x.frame.command) (s.setTxn (some { x with phase := .space }))
        (r.phase = .seat →
          exec .twentyFirstCharacter s =
            .next
              (takeHold
                (if r.attempts < 3 then raised else raised.setRound (some { r with phase := .clear, attempts := 0 })))) ∧
        (r.phase = .clear →
          exec .twentyFirstCharacter s =
            .next (takeHold (raised.setRound (some { r with closing := some .failed })))))

/-- The DESC phase. At the end of SPACE the next attempt begins. A good answer gives the entry the descriptor and makes
it ACTIVE, or PAUSED after a rejoin of an entry that was PAUSED; a PROVISIONAL gate mode takes the kind's default, GATED
for an actuator and FREE for a sensor, with the gate closed also where the host had opened it (DEDUCED, log entry 11). A
third attempt that is not good, by its answer, by none or by a 21st character, leaves the entry UNDESCRIBED, puts its
slot in the change set and counts it as undescribed; one before leaves all as it was. Either way the round is served.
Under HOLD too the event is whole before the hold is taken (R146, OccurrencesAreRecorded; log entry 25). -/
def Obligations.DescribePhasesEnd : Prop :=
  (∀ (s : State) (x : Transaction) (i : Slot) (r : Round), s.start.phase = .running → s.line.txn = some x →
      x.phase = .space → x.user = .survey → s.line.state = .survey → s.survey.round = some r → r.chosen = some i →
      r.phase = .describe → r.closing = none → s.noHoldAsked → s.wireHeld = false → s.line.owed = [] →
      s.pool.inFlight = none → s.surveyReplyOwed = false →
        exec .spaceEnd s =
          .next
            (beginFrame { command := .desc, target := some i, data := [] } .survey
              ((s.nodesLeave.setTxn none).setRound (some { r with attempts := r.attempts + 1 })))) ∧
  (∀ (s : State) (x : Transaction) (i : Slot) (r : Round) (chars data : List Byte) (status : Byte) (d : Descriptor),
      s.onLine x .receive → x.user = .survey → x.frame = { command := .desc, target := some i, data := [] } →
      s.survey.round = some r → r.phase = .describe → r.chosen = some i → (s.entry i).state = .undescribed →
      s.survey.stopping = false → s.noHoldAsked →
        let spaced := s.nodesLeave.setTxn (some { x with phase := .space })
        let judged := judgeAnswer .desc ((s.entry i).descriptor.map fun d => d.reportLength) chars
        let failure (u : State) : State :=
          if r.attempts < 3 then u
          else
            (u.setSurvey
              { s.survey with
                record := { s.survey.record with undescribed := s.survey.record.undescribed + 1 }
                round := some { r with closing := some .served } }).addChange i
        (judged = .good 0x00 data → descriptorOf data = some d →
          exec (.answerReceived chars) s =
            .next
              ((spaced.setEntry i
                { s.entry i with
                  descriptor := some d
                  state := if r.prior = some .paused then .paused else .active
                  gateMode :=
                    if (s.entry i).gateSource = .provisional then
                      (if d.kind = .actuator then .gated else .free)
                    else (s.entry i).gateMode
                  gateSource := if (s.entry i).gateSource = .provisional then .kind else (s.entry i).gateSource
                  gateOpen := (s.entry i).gateOpen && decide ((s.entry i).gateSource ≠ .provisional) }).setRound
                (some { r with closing := some .served }))) ∧
        (judged = .good status data → status ≠ 0x00 → exec (.answerReceived chars) s = .next (failure spaced)) ∧
        (judged = .broken →
          exec (.answerReceived chars) s =
            .next (takeHold (failure (raise .badCheck (slotByte i) (commandCode .desc) spaced)))) ∧
        exec .twentyFirstCharacter s =
          .next
            (takeHold
              (failure
                (raise .badCheck (slotByte i) (commandCode .desc) (s.setTxn (some { x with phase := .space })))))) ∧
  (∀ (s : State) (x : Transaction) (i : Slot) (r : Round), s.onLine x .wait → x.user = .survey →
      x.frame.target = some i → s.survey.round = some r → r.phase = .describe → r.chosen = some i →
      s.noHoldAsked →
        let spaced := s.setTxn (some { x with phase := .space })
        exec .answerWindowExpiry s =
          .next
            (if r.attempts < 3 then spaced
            else
              (spaced.setSurvey
                { s.survey with
                  record := { s.survey.record with undescribed := s.survey.record.undescribed + 1 }
                  round := some { r with closing := some .served } }).addChange i))

/-- How rounds and surveys end. A CALL that meets a collision is not followed by a contest and its round fails (under
HOLD too the event is whole before the hold is taken, OccurrencesAreRecorded, log entry 25); the SKIP begins at the end
of SPACE, counted, and the failures in a row return to 0. A round that is decided ends with its last SPACE: the survey
ends FAILED at the third failure in a row, else LIMIT after 64 rounds, else the next CALL begins. An empty contest ends
the survey COMPLETE. At each ending the record takes its end, the latch is set, the line is RUNNING with a cycle start
and without a late count, and a CLOSE is owed. Where the clearing of the latch by a SURVEY_RESULT may still follow, the
latch is not stated (log entry 10). -/
def Obligations.RoundsAndSurveysEnd : Prop :=
  (∀ (s : State) (x : Transaction) (r : Round), s.start.phase = .running → s.line.txn = some x → x.phase = .send →
      x.user = .survey → x.frame = { command := .call, target := none, data := [] } → s.survey.round = some r →
      r.phase = .contest → s.survey.stopping = false → s.noHoldAsked →
        exec .collision s =
          .next
            (takeHold
              ((raise .collision 0 (commandCode .call) (s.setTxn (some { x with phase := .space }))).setRound
                (some { r with closing := some .failed })))) ∧
  (∀ (s : State) (x : Transaction) (r : Round), s.start.phase = .running → s.line.txn = some x → x.phase = .space →
      x.user = .survey → s.line.state = .survey → s.survey.round = some r → s.survey.stopping = false →
      s.noHoldAsked → s.wireHeld = false → s.line.owed = [] → s.pool.inFlight = none →
        let free := s.nodesLeave.setTxn none
        let failed : Nat := if r.closing = some .failed then 1 else 0
        let ended (result : SurveyState) (t : State) : Prop :=
          t.survey.record =
              { s.survey.record with
                state := result
                finish := some s.now
                failedRounds := s.survey.record.failedRounds + failed } ∧
            t.survey.round = none ∧ t.line.state = .running ∧ t.line.silence = true ∧
            t.line.txn =
              some
                { frame := { command := .close, target := none, data := [] }, user := .owed, phase := .send,
                  aborted := none, contestBroken := false, spaceHit := false } ∧
            (∀ i : Slot, t.isDue i = (s.isDue i || decide ((s.entry i).state = .active))) ∧
            t.sched.cycle = some { length := s.sched.period, remaining := s.sched.period } ∧
            t.sched.lateCycles = s.sched.lateCycles ∧
            (s.link.clearMayFollow = false → t.link = { s.link with surveyDone := true }) ∧ t.dir = s.dir ∧
            t.store = s.store ∧ t.pool = s.pool ∧ t.faults = s.faults ∧ t.start = s.start ∧ t.settings = s.settings
        (r.phase = .skip → r.closing = none → s.surveyReplyOwed = false →
          exec .spaceEnd s =
            .next
              (beginFrame { command := .skip, target := none, data := [] } .survey
                (free.setSurvey
                  { s.survey with
                    record := { s.survey.record with skipped := s.survey.record.skipped + 1 }
                    failures := 0 }))) ∧
        (r.closing.isSome = true → s.survey.failures + failed < 3 → s.survey.record.roundsRun < 64 →
          s.surveyReplyOwed = false →
          exec .spaceEnd s =
            .next
              (beginFrame { command := .call, target := none, data := [] } .survey
                (free.setSurvey
                  { record :=
                      { s.survey.record with
                        failedRounds := s.survey.record.failedRounds + failed
                        roundsRun := s.survey.record.roundsRun + 1 }
                    round := some freshRound
                    failures := s.survey.failures + failed
                    stopping := false }))) ∧
        (r.closing.isSome = true → s.survey.failures + failed = 3 → ∃ t, exec .spaceEnd s = .next t ∧ ended .failed t) ∧
        (r.closing.isSome = true → s.survey.failures + failed < 3 → s.survey.record.roundsRun = 64 →
          ∃ t, exec .spaceEnd s = .next t ∧ ended .limit t)) ∧
  (∀ (s : State) (x : Transaction) (r : Round) (lead : BitVec 2) (slots : BitVec 168), s.start.phase = .running →
      s.line.txn = some x → x.phase = .contest → x.contestBroken = false → s.survey.round = some r →
      r.phase = .contest → s.survey.stopping = false → s.noHoldAsked → s.contestHit lead slots = false →
      s.contestReading slots = 0 →
        ∃ t, exec (.contestEnd lead slots) s = .next t ∧
          t.survey.record = { s.survey.record with state := .complete, finish := some s.now } ∧ t.survey.round = none ∧
          t.line.state = .running ∧ t.line.silence = true ∧
          t.line.owed.getLast?.map (fun o => o.command) = some .close ∧
          t.line.txn = some { x with phase := .space } ∧
          (∀ i : Slot, t.isDue i = (s.isDue i || decide ((s.entry i).state = .active))) ∧
          t.sched.cycle = some { length := s.sched.period, remaining := s.sched.period } ∧
          t.sched.lateCycles = s.sched.lateCycles ∧
          (s.link.clearMayFollow = false → t.link = { s.link with surveyDone := true }) ∧
          t.dir = s.dir ∧ t.store = s.store ∧ t.pool = s.pool ∧ t.faults = s.faults ∧ t.start = s.start ∧
          t.settings = s.settings)

/-! ## The nodes -/

/-- R38, R40, R42, R81, R139: what a conforming node does. The cells of R38's table, frame by frame, for a node that
hears the frame whole; a node at which it failed its check ignores it. A CONTENDING node, and the SEATED one that holds
the slot, answers SEAT with its identity check byte, and no other node answers it. A node that answers UNSEAT is
UNSEATED once its answer has ended. A POLL whose acknowledgement names the report on offer releases that report, and no
other frame releases one; the answer to POLL carries the report then on offer, or the sequence of the last report made,
and the alarm flag. A SEATED node writes the item of a PUT that it accepts, a HALTED one does not; which refusal
answers a PUT or a GET is the model's choice (log entry 42). In the contest a contender whose bit is 0 in a slot that
reads dominant withdraws, and a node not in the contest stays as it was. A node whose idle timer runs out is UNSEATED,
and one that restarts is UNSEATED with its reports numbered in order; no other node and nothing of the part changes. A
node's outputs leave their safe state only while it is SEATED, and after a drop only once it has been described again.
What a node restarts with is the command's operand, and the nodes' own records, with no report discarded and so with
consecutive numbers, are the model's (log entry 21), and so are the moment at which a node is described again and the
end of the drop at a restart (log entry 40). -/
def Obligations.NodesFollowTheProtocol : Prop :=
  (∀ (n : Node) (i : Slot) (f : LineFrame), n.leaving = false →
      let hears (c : LineCommand) : NodeState := (hearFrame { command := c, target := none, data := [] } n).state
      let seated (j : Slot) : NodeState := (hearFrame { command := .seat, target := some j, data := [] } n).state
      (n.state = .unseated →
        hears .call = .contending ∧ seated i = .unseated ∧ hears .skip = .unseated ∧ hears .close = .unseated ∧
          hears .halt = .unseated ∧ hears .go = .unseated ∧ hears .unseatAll = .unseated ∧ hears .keep = .unseated) ∧
      (n.state = .contending →
        hears .call = .contending ∧ seated i = .seated i ∧ hears .skip = .skipped ∧ hears .close = .unseated ∧
          hears .halt = .unseated ∧ hears .go = .contending ∧ hears .unseatAll = .unseated ∧
          hears .keep = .contending) ∧
      (n.state = .withdrawn →
        hears .call = .contending ∧ seated i = .withdrawn ∧ hears .skip = .withdrawn ∧ hears .close = .unseated ∧
          hears .halt = .unseated ∧ hears .go = .withdrawn ∧ hears .unseatAll = .unseated ∧
          hears .keep = .withdrawn) ∧
      (n.state = .skipped →
        hears .call = .skipped ∧ seated i = .skipped ∧ hears .skip = .skipped ∧ hears .close = .unseated ∧
          hears .halt = .unseated ∧ hears .go = .skipped ∧ hears .unseatAll = .unseated ∧ hears .keep = .skipped) ∧
      (∀ j, n.state = .seated j →
        hears .call = .seated j ∧ seated i = .seated j ∧ hears .skip = .seated j ∧ hears .close = .seated j ∧
          hears .halt = .halted j ∧ hears .go = .seated j ∧ hears .unseatAll = .unseated ∧ hears .keep = .seated j) ∧
      (∀ j, n.state = .halted j →
        hears .call = .halted j ∧ seated i = .halted j ∧ hears .skip = .halted j ∧ hears .close = .halted j ∧
          hears .halt = .halted j ∧ hears .go = .seated j ∧ hears .unseatAll = .unseated ∧ hears .keep = .halted j) ∧
      (missFrame f n).state = n.state ∧
      (f.command ≠ .poll ∨ f.target ≠ heldSlot n.state → (hearFrame f n).held = n.held) ∧
      (f.target = some i → n.state = .seated i ∨ n.state = .halted i →
        (f.command = .unseat → (hearFrame f n).state = n.state ∧ (departed (hearFrame f n)).state = .unseated) ∧
        (f.command ≠ .unseat → departed (hearFrame f n) = hearFrame f n) ∧
        (f.command = .desc → conformingAnswer f n = some (framedAnswer 0x00 n.descriptor)) ∧
        (f.command = .unseat → conformingAnswer f n = some (framedAnswer 0x00 [])) ∧
        (f.command = .put → n.state = .halted i →
          (hearFrame f n).items = n.items ∧ conformingAnswer f n = some (framedAnswer 0x84 [])) ∧
        (∀ number values, f.command = .put → n.state = .seated i → f.data = number :: values →
          conformingAnswer f n = some (framedAnswer (putStatus number values n) []) ∧
            (putStatus number values n = 0x00 → (itemOf number (hearFrame f n)).map (fun m => m.value) = some values) ∧
            (putStatus number values n ≠ 0x00 → (hearFrame f n).items = n.items)) ∧
        (∀ number m, f.command = .get → f.data = [number] → itemOf number n = some m →
          conformingAnswer f n = some (framedAnswer 0x00 m.value)) ∧
        (∀ number, f.command = .get → f.data = [number] → itemOf number n = none →
          conformingAnswer f n = some (framedAnswer 0x81 [])) ∧
        (f.command = .poll →
          (n.held = [] → (hearFrame f n).held = []) ∧
          (∀ r later, n.held = r :: later →
            (f.data = [0x01, r.sequence] → (hearFrame f n).held = later) ∧
            (∀ present q, f.data = [present, q] → present ≠ 0x01 ∨ q ≠ r.sequence → (hearFrame f n).held = r :: later)) ∧
          let flags : Byte := if n.alarm then 0x02 else 0x00
          (∀ r later, (hearFrame f n).held = r :: later →
            conformingAnswer f n = some (framedAnswer (flags ||| 0x01) (r.sequence :: r.payload))) ∧
          ((hearFrame f n).held = [] → conformingAnswer f n = some (framedAnswer flags [n.lastMade]))) ∧
        (∀ p, f.command = .echo → f.data = [patternCode p] →
          conformingAnswer f n = some (framedAnswer 0x00 (List.replicate 4 (patternByte p))))) ∧
      (f.target = some i → n.state ≠ .seated i → n.state ≠ .halted i → f.command ≠ .seat →
        conformingAnswer f n = none) ∧
      (f.target = some i → f.command = .seat →
        conformingAnswer f n =
          if n.state = .contending ∨ n.state = .seated i then
            some (framedAnswer 0x00 [crc8 (identityBytes n.identity)])
          else none)) ∧
  (∀ (n : Node) (number : Byte) (values : List Byte),
      (itemOf number n = none → putStatus number values n = 0x81) ∧
      (∀ m, itemOf number n = some m → m.writable = false → putStatus number values n = 0x82) ∧
      (∀ m, itemOf number n = some m → m.writable = true →
        putStatus number values n = if Config.nodeAllowsValue n.number number values then 0x00 else 0x83)) ∧
  (∀ (n : Node) (levels : BitVec 56),
      (contends n = true →
        ((contestNode levels n).state = .withdrawn ↔
          ∃ k, k < 56 ∧ (contestWord n.identity).getLsbD k = false ∧ levels.getLsbD k = true) ∧
        ((contestNode levels n).state ≠ .withdrawn → (contestNode levels n).state = .contending)) ∧
      (contends n = false → (contestNode levels n).state = n.state)) ∧
  (∀ (s : State) (node : Nat),
      exec (.nodeIdleDrop node) s =
        .next
          { s with
            nodes :=
              s.nodes.map fun n =>
                if n.number = node then
                  { n with
                    state := .unseated, leaving := false, inContest := false
                    dropped := n.dropped || (heldSlot n.state).isSome }
                else n } ∧
      (∀ (identity : Identity) (descriptor : List Byte) (first : Byte)
        (payloads : List (List Byte)) (condition : NodeCondition),
        ∃ fresh : Node,
          exec (.nodeRestart node identity descriptor first payloads condition) s =
            .next { s with nodes := s.nodes.filter (fun n => n.number ≠ node) ++ [fresh] } ∧
          fresh.number = node ∧ fresh.identity = identity ∧ fresh.state = .unseated ∧ fresh.descriptor = descriptor ∧
          fresh.alarm = condition.alarm ∧ fresh.items = condition.items ∧ fresh.held.map (fun r => r.payload) = payloads ∧
          (∀ k, k < payloads.length → (fresh.held.map fun r => r.sequence)[k]? = some (first + BitVec.ofNat 8 k)) ∧
          (∀ r, fresh.held.getLast? = some r → fresh.lastMade = r.sequence))) ∧
  (∀ n : Node, (outputsSafe n = false ↔ (∃ i : Slot, n.state = .seated i) ∧ n.dropped = false) ∧
      (n.leaving = false → n.dropped = true → ∀ f : LineFrame, (hearFrame f n).dropped = false →
        f.command = .desc ∧ f.target.isSome = true ∧ f.target = heldSlot n.state))

/-- R25, R27: LINE is dominant exactly when some party pulls it low; the part pulls it low only in the dominant bits of
the frame it sends, and releases it at every other time. A character is a dominant start bit, eight data bits, least
significant first, dominant for 0, and a recessive stop bit, and is read as its byte; a dominant stop bit gives no
byte. R41 to R43: a contest lasts 170 bit times. No contender drives in its lead of two, nor in the separator of a
slot; bit times 2 and 3 of a slot are dominant exactly where a contender carries a 1 there that no slot before has
withdrawn, or something outside pulls low; the part reads bit time 3; a lead or separator that reads dominant breaks
the contest. With nothing else on the line it reads the highest word of those that contend, or 0 with none. What else
pulls the line low is CONTEST_END's operands (the model's choice, log entry 21). -/
def Obligations.TheWiredLine : Prop :=
  (∀ (s : State) (k : Nat) (others : List Level),
      (s.lineLevel k others = .dominant ↔ s.partDrives k = .dominant ∨ .dominant ∈ others) ∧
      (s.line.txn = none → s.partDrives k = .recessive) ∧
      (∀ x, s.line.txn = some x → x.phase ≠ .send → s.partDrives k = .recessive) ∧
      (∀ x c b bit, s.line.txn = some x → x.phase = .send → (lineFrameBytes x.frame)[c]? = some b → bit < 10 →
        s.partDrives (10 * c + bit) = (charLevels b).getD bit .recessive) ∧
      (∀ x, s.line.txn = some x → x.phase = .send → 10 * (lineFrameBytes x.frame).length ≤ k →
        s.partDrives k = .recessive)) ∧
  (∀ b : Byte,
      (charLevels b).length = 10 ∧ (charLevels b)[0]? = some .dominant ∧ (charLevels b)[9]? = some .recessive ∧
        (∀ k, k < 8 → (charLevels b)[k + 1]? = some (if b.getLsbD k then .recessive else .dominant)) ∧
        readChar (charLevels b) = some b) ∧
  (∀ levels : List Level, levels.getLast? = some .dominant → readChar levels = none) ∧
  (∀ (s : State) (lead : BitVec 2) (slots : BitVec 168),
      let wire := s.contestWire lead slots
      let reading := s.contestReading slots
      wire.length = 170 ∧
      (∀ t, t < 2 → (wire[t]? = some .dominant ↔ lead.getLsbD t = true)) ∧
      (∀ slot, slot < 56 →
        (wire[2 + 3 * slot]? = some .dominant ↔ slots.getLsbD (3 * slot) = true) ∧
        (∀ j, j = 1 ∨ j = 2 →
          (wire[2 + 3 * slot + j]? = some .dominant ↔
            slots.getLsbD (3 * slot + j) = true ∨
              ∃ n ∈ s.nodes, contends n = true ∧ (contestWord n.identity).getLsbD (55 - slot) = true ∧
                ∀ m, m < slot → (contestWord n.identity).getLsbD (55 - m) = false → reading.getLsbD (55 - m) = false)) ∧
        (reading.getLsbD (55 - slot) = true ↔ wire[2 + 3 * slot + 2]? = some .dominant)) ∧
      (s.contestHit lead slots = true ↔
        ∃ t, wire[t]? = some .dominant ∧ (t < 2 ∨ ∃ slot, slot < 56 ∧ t = 2 + 3 * slot))) ∧
  (∀ s : State,
      ((∀ n ∈ s.nodes, contends n = false) → s.contestReading 0 = 0) ∧
      ((∃ n ∈ s.nodes, contends n = true) →
        ∃ w ∈ s.nodes, contends w = true ∧ s.contestReading 0 = contestWord w.identity ∧
          ∀ n ∈ s.nodes, contends n = true → (contestWord n.identity).toNat ≤ (contestWord w.identity).toNat))

/-! ## Laws that every step keeps -/

/-- R142: a step keeps the law of the fault table. -/
def Obligations.FaultTableStaysLawful : Prop :=
  ∀ s t : State, faultTableLawful s → step s = .next t → faultTableLawful t

/-- R77: a step keeps the law of the due set. R87: a step keeps every miss count below the limit, and zero where the
entry is not ACTIVE. -/
def Obligations.DueSetAndMissesStayLawful : Prop :=
  (∀ s t : State, dueLawful s → step s = .next t → dueLawful t) ∧
  (∀ s t : State, missesLawful s → step s = .next t → missesLawful t)

/-- R1, R3, R92, R96, R59, R110: a step keeps the laws of the entries and of the rings, and the law that ties the frame on
the line to the work it is for. -/
def Obligations.EntriesAndRingsStayLawful : Prop :=
  ∀ s t : State, directoryLawful s ∧ ringsLawful s ∧ workLawful s → step s = .next t →
    directoryLawful t ∧ ringsLawful t ∧ workLawful t

/-- R2: a step keeps the identities of the entries apart. R18: a step keeps the identities of the bindings apart. -/
def Obligations.IdentitiesAndBindingsStayApart : Prop :=
  (∀ s t : State, identitiesLawful s → step s = .next t → identitiesLawful t) ∧
  (∀ s t : State, bindingsLawful s → step s = .next t → bindingsLawful t)

/-- R109: a step keeps at most 8 records in the pool and no two with one tag. R128: a step keeps the law of the owed
sends. -/
def Obligations.PoolAndOwedSendsStayLawful : Prop :=
  (∀ s t : State, poolLawful s → step s = .next t → poolLawful t) ∧
  (∀ s t : State, owedLawful s → step s = .next t → owedLawful t)

/-- Only an answer (a report taken into a ring) and the events that make a start or the loss of the supply change report
memory. A step keeps report memory in its canonical form. -/
def Obligations.ReportMemoryIsKept : Prop :=
  (∀ (c : Instr) (s t : State), exec c s = .next t →
      (∀ chars, c ≠ .answerReceived chars) → c ≠ .powerOn → c ≠ .powerLoss → c ≠ .resetPinLow → c ≠ .resetPinHigh →
        c ≠ .requestedRestart → c ≠ .replyEnd → t.store.memory = s.store.memory) ∧
  (∀ s t : State, memoryLawful s → step s = .next t → memoryLawful t)

/-- A step keeps the timers and the survey in agreement with the line state, and leaves no hold asked for (DEDUCED, log
entry 25). That a survey still to stop has a frame, an answer or a contest of its own on the line rests on the model's
choice of the frame boundary (log entry 15). R17: a step keeps every gate closed while the line is HELD. -/
def Obligations.LineTimersAndGatesFollowTheLineState : Prop :=
  (∀ s t : State, lineLawful s ∧ s.noHoldAsked → step s = .next t → lineLawful t ∧ t.noHoldAsked) ∧
  (∀ s t : State, gatesShutWhenHeld s → step s = .next t → gatesShutWhenHeld t)

/-- The state after reset has every one of these laws. -/
def Obligations.ResetIsLawful : Prop :=
  gatesShutWhenHeld State.reset ∧ faultTableLawful State.reset ∧ poolLawful State.reset ∧ dueLawful State.reset ∧
    missesLawful State.reset ∧ directoryLawful State.reset ∧ ringsLawful State.reset ∧ identitiesLawful State.reset ∧
    bindingsLawful State.reset ∧ owedLawful State.reset ∧ memoryLawful State.reset ∧ lineLawful State.reset ∧
    workLawful State.reset ∧ State.reset.noHoldAsked
end

