-- ==== Sys2Proof/Laws/Tables.lean ====
section
/-! SUPPORT. The cells of a table after each way of building one. -/

namespace Sys2Proof

variable {n : Nat} {α β : Type}

@[simp] theorem cell_putCell_self (t : Table n α) (i : Fin n) (x : α) : cell (putCell t i x) i = x := by
  simp [cell, putCell]

theorem cell_putCell_ne (t : Table n α) {i j : Fin n} (h : j ≠ i) (x : α) : cell (putCell t i x) j = cell t j := by
  have hv : i.val ≠ j.val := fun e => h (Fin.ext e.symm)
  simp [cell, putCell, hv]

@[simp] theorem cell_mapCells (f : α → β) (t : Table n α) (i : Fin n) : cell (mapCells f t) i = f (cell t i) := by
  simp [cell, mapCells]

@[simp] theorem cell_allCells (x : α) (i : Fin n) : cell (allCells n x) i = x := by
  simp [cell, allCells]

@[simp] theorem cell_tabulate (f : Fin n → α) (i : Fin n) : cell (tabulate n f) i = f i := by
  simp [cell, tabulate]

/-- Two tables with the same cells are one table. -/
theorem table_ext {t u : Table n α} (h : ∀ i : Fin n, cell t i = cell u i) : t = u := by
  apply Vector.ext
  intro i hi
  exact h ⟨i, hi⟩

theorem mem_slots (i : Slot) : i ∈ slots := by
  revert i; decide

end Sys2Proof
end

