-- ==== Sys2Proof/Laws/State.lean ====
section
/-! SUPPORT. What each update of the state leaves as it was and what it writes: one lemma per field per update. -/

namespace Sys2Proof.Machine

variable (s : State)

/-! ## setEntry -/

@[simp] theorem setEntry_start (i : Slot) (e : Entry) : (s.setEntry i e).start = s.start := rfl
@[simp] theorem setEntry_settings (i : Slot) (e : Entry) : (s.setEntry i e).settings = s.settings := rfl
@[simp] theorem setEntry_link (i : Slot) (e : Entry) : (s.setEntry i e).link = s.link := rfl
@[simp] theorem setEntry_survey (i : Slot) (e : Entry) : (s.setEntry i e).survey = s.survey := rfl
@[simp] theorem setEntry_line (i : Slot) (e : Entry) : (s.setEntry i e).line = s.line := rfl
@[simp] theorem setEntry_sched (i : Slot) (e : Entry) : (s.setEntry i e).sched = s.sched := rfl
@[simp] theorem setEntry_store (i : Slot) (e : Entry) : (s.setEntry i e).store = s.store := rfl
@[simp] theorem setEntry_pool (i : Slot) (e : Entry) : (s.setEntry i e).pool = s.pool := rfl
@[simp] theorem setEntry_faults (i : Slot) (e : Entry) : (s.setEntry i e).faults = s.faults := rfl
@[simp] theorem setEntry_nodes (i : Slot) (e : Entry) : (s.setEntry i e).nodes = s.nodes := rfl
@[simp] theorem setEntry_freeIndex (i : Slot) (e : Entry) : (s.setEntry i e).freeIndex = s.freeIndex := rfl
@[simp] theorem setEntry_pending (i : Slot) (e : Entry) : (s.setEntry i e).pending = s.pending := rfl
@[simp] theorem setEntry_now (i : Slot) (e : Entry) : (s.setEntry i e).now = s.now := rfl
@[simp] theorem setEntry_live (i : Slot) (e : Entry) : (s.setEntry i e).live = s.live := rfl
@[simp] theorem setEntry_ring (i : Slot) (e : Entry) (j : Slot) : (s.setEntry i e).ring j = s.ring j := rfl
@[simp] theorem setEntry_record (i : Slot) (e : Entry) (kind : FaultKind) : (s.setEntry i e).record kind = s.record kind := rfl
@[simp] theorem setEntry_reaction (i : Slot) (e : Entry) (kind : FaultKind) : (s.setEntry i e).reaction kind = s.reaction kind := rfl
@[simp] theorem setEntry_isDue (i : Slot) (e : Entry) (j : Slot) : (s.setEntry i e).isDue j = s.isDue j := rfl
@[simp] theorem setEntry_isChanged (i : Slot) (e : Entry) (j : Slot) : (s.setEntry i e).isChanged j = s.isChanged j := rfl

/-! ## setRing -/

@[simp] theorem setRing_start (i : Slot) (r : Option Ring) : (s.setRing i r).start = s.start := rfl
@[simp] theorem setRing_settings (i : Slot) (r : Option Ring) : (s.setRing i r).settings = s.settings := rfl
@[simp] theorem setRing_link (i : Slot) (r : Option Ring) : (s.setRing i r).link = s.link := rfl
@[simp] theorem setRing_dir (i : Slot) (r : Option Ring) : (s.setRing i r).dir = s.dir := rfl
@[simp] theorem setRing_survey (i : Slot) (r : Option Ring) : (s.setRing i r).survey = s.survey := rfl
@[simp] theorem setRing_line (i : Slot) (r : Option Ring) : (s.setRing i r).line = s.line := rfl
@[simp] theorem setRing_sched (i : Slot) (r : Option Ring) : (s.setRing i r).sched = s.sched := rfl
@[simp] theorem setRing_pool (i : Slot) (r : Option Ring) : (s.setRing i r).pool = s.pool := rfl
@[simp] theorem setRing_faults (i : Slot) (r : Option Ring) : (s.setRing i r).faults = s.faults := rfl
@[simp] theorem setRing_nodes (i : Slot) (r : Option Ring) : (s.setRing i r).nodes = s.nodes := rfl
@[simp] theorem setRing_freeIndex (i : Slot) (r : Option Ring) : (s.setRing i r).freeIndex = s.freeIndex := rfl
@[simp] theorem setRing_pending (i : Slot) (r : Option Ring) : (s.setRing i r).pending = s.pending := rfl
@[simp] theorem setRing_now (i : Slot) (r : Option Ring) : (s.setRing i r).now = s.now := rfl
@[simp] theorem setRing_live (i : Slot) (r : Option Ring) : (s.setRing i r).live = s.live := rfl
@[simp] theorem setRing_entry (i : Slot) (r : Option Ring) (j : Slot) : (s.setRing i r).entry j = s.entry j := rfl
@[simp] theorem setRing_record (i : Slot) (r : Option Ring) (kind : FaultKind) : (s.setRing i r).record kind = s.record kind := rfl
@[simp] theorem setRing_reaction (i : Slot) (r : Option Ring) (kind : FaultKind) : (s.setRing i r).reaction kind = s.reaction kind := rfl
@[simp] theorem setRing_isDue (i : Slot) (r : Option Ring) (j : Slot) : (s.setRing i r).isDue j = s.isDue j := rfl
@[simp] theorem setRing_isChanged (i : Slot) (r : Option Ring) (j : Slot) : (s.setRing i r).isChanged j = s.isChanged j := rfl

/-! ## setMemory -/

@[simp] theorem setMemory_start (m : Memory) : (s.setMemory m).start = s.start := rfl
@[simp] theorem setMemory_settings (m : Memory) : (s.setMemory m).settings = s.settings := rfl
@[simp] theorem setMemory_link (m : Memory) : (s.setMemory m).link = s.link := rfl
@[simp] theorem setMemory_dir (m : Memory) : (s.setMemory m).dir = s.dir := rfl
@[simp] theorem setMemory_survey (m : Memory) : (s.setMemory m).survey = s.survey := rfl
@[simp] theorem setMemory_line (m : Memory) : (s.setMemory m).line = s.line := rfl
@[simp] theorem setMemory_sched (m : Memory) : (s.setMemory m).sched = s.sched := rfl
@[simp] theorem setMemory_pool (m : Memory) : (s.setMemory m).pool = s.pool := rfl
@[simp] theorem setMemory_faults (m : Memory) : (s.setMemory m).faults = s.faults := rfl
@[simp] theorem setMemory_nodes (m : Memory) : (s.setMemory m).nodes = s.nodes := rfl
@[simp] theorem setMemory_freeIndex (m : Memory) : (s.setMemory m).freeIndex = s.freeIndex := rfl
@[simp] theorem setMemory_pending (m : Memory) : (s.setMemory m).pending = s.pending := rfl
@[simp] theorem setMemory_now (m : Memory) : (s.setMemory m).now = s.now := rfl
@[simp] theorem setMemory_live (m : Memory) : (s.setMemory m).live = s.live := rfl
@[simp] theorem setMemory_entry (m : Memory) (j : Slot) : (s.setMemory m).entry j = s.entry j := rfl
@[simp] theorem setMemory_ring (m : Memory) (j : Slot) : (s.setMemory m).ring j = s.ring j := rfl
@[simp] theorem setMemory_record (m : Memory) (kind : FaultKind) : (s.setMemory m).record kind = s.record kind := rfl
@[simp] theorem setMemory_reaction (m : Memory) (kind : FaultKind) : (s.setMemory m).reaction kind = s.reaction kind := rfl
@[simp] theorem setMemory_isDue (m : Memory) (j : Slot) : (s.setMemory m).isDue j = s.isDue j := rfl
@[simp] theorem setMemory_isChanged (m : Memory) (j : Slot) : (s.setMemory m).isChanged j = s.isChanged j := rfl

/-! ## setDue -/

@[simp] theorem setDue_start (i : Slot) (b : Bool) : (s.setDue i b).start = s.start := rfl
@[simp] theorem setDue_settings (i : Slot) (b : Bool) : (s.setDue i b).settings = s.settings := rfl
@[simp] theorem setDue_link (i : Slot) (b : Bool) : (s.setDue i b).link = s.link := rfl
@[simp] theorem setDue_dir (i : Slot) (b : Bool) : (s.setDue i b).dir = s.dir := rfl
@[simp] theorem setDue_survey (i : Slot) (b : Bool) : (s.setDue i b).survey = s.survey := rfl
@[simp] theorem setDue_line (i : Slot) (b : Bool) : (s.setDue i b).line = s.line := rfl
@[simp] theorem setDue_store (i : Slot) (b : Bool) : (s.setDue i b).store = s.store := rfl
@[simp] theorem setDue_pool (i : Slot) (b : Bool) : (s.setDue i b).pool = s.pool := rfl
@[simp] theorem setDue_faults (i : Slot) (b : Bool) : (s.setDue i b).faults = s.faults := rfl
@[simp] theorem setDue_nodes (i : Slot) (b : Bool) : (s.setDue i b).nodes = s.nodes := rfl
@[simp] theorem setDue_freeIndex (i : Slot) (b : Bool) : (s.setDue i b).freeIndex = s.freeIndex := rfl
@[simp] theorem setDue_pending (i : Slot) (b : Bool) : (s.setDue i b).pending = s.pending := rfl
@[simp] theorem setDue_now (i : Slot) (b : Bool) : (s.setDue i b).now = s.now := rfl
@[simp] theorem setDue_live (i : Slot) (b : Bool) : (s.setDue i b).live = s.live := rfl
@[simp] theorem setDue_entry (i : Slot) (b : Bool) (j : Slot) : (s.setDue i b).entry j = s.entry j := rfl
@[simp] theorem setDue_ring (i : Slot) (b : Bool) (j : Slot) : (s.setDue i b).ring j = s.ring j := rfl
@[simp] theorem setDue_record (i : Slot) (b : Bool) (kind : FaultKind) : (s.setDue i b).record kind = s.record kind := rfl
@[simp] theorem setDue_reaction (i : Slot) (b : Bool) (kind : FaultKind) : (s.setDue i b).reaction kind = s.reaction kind := rfl
@[simp] theorem setDue_isChanged (i : Slot) (b : Bool) (j : Slot) : (s.setDue i b).isChanged j = s.isChanged j := rfl

/-! ## addChange -/

@[simp] theorem addChange_start (i : Slot) : (s.addChange i).start = s.start := rfl
@[simp] theorem addChange_settings (i : Slot) : (s.addChange i).settings = s.settings := rfl
@[simp] theorem addChange_link (i : Slot) : (s.addChange i).link = s.link := rfl
@[simp] theorem addChange_survey (i : Slot) : (s.addChange i).survey = s.survey := rfl
@[simp] theorem addChange_line (i : Slot) : (s.addChange i).line = s.line := rfl
@[simp] theorem addChange_sched (i : Slot) : (s.addChange i).sched = s.sched := rfl
@[simp] theorem addChange_store (i : Slot) : (s.addChange i).store = s.store := rfl
@[simp] theorem addChange_pool (i : Slot) : (s.addChange i).pool = s.pool := rfl
@[simp] theorem addChange_faults (i : Slot) : (s.addChange i).faults = s.faults := rfl
@[simp] theorem addChange_nodes (i : Slot) : (s.addChange i).nodes = s.nodes := rfl
@[simp] theorem addChange_freeIndex (i : Slot) : (s.addChange i).freeIndex = s.freeIndex := rfl
@[simp] theorem addChange_pending (i : Slot) : (s.addChange i).pending = s.pending := rfl
@[simp] theorem addChange_now (i : Slot) : (s.addChange i).now = s.now := rfl
@[simp] theorem addChange_live (i : Slot) : (s.addChange i).live = s.live := rfl
@[simp] theorem addChange_entry (i : Slot) (j : Slot) : (s.addChange i).entry j = s.entry j := rfl
@[simp] theorem addChange_ring (i : Slot) (j : Slot) : (s.addChange i).ring j = s.ring j := rfl
@[simp] theorem addChange_record (i : Slot) (kind : FaultKind) : (s.addChange i).record kind = s.record kind := rfl
@[simp] theorem addChange_reaction (i : Slot) (kind : FaultKind) : (s.addChange i).reaction kind = s.reaction kind := rfl
@[simp] theorem addChange_isDue (i : Slot) (j : Slot) : (s.addChange i).isDue j = s.isDue j := rfl

/-! ## setRecord -/

@[simp] theorem setRecord_start (k : FaultKind) (r : FaultRecord) : (s.setRecord k r).start = s.start := rfl
@[simp] theorem setRecord_settings (k : FaultKind) (r : FaultRecord) : (s.setRecord k r).settings = s.settings := rfl
@[simp] theorem setRecord_link (k : FaultKind) (r : FaultRecord) : (s.setRecord k r).link = s.link := rfl
@[simp] theorem setRecord_dir (k : FaultKind) (r : FaultRecord) : (s.setRecord k r).dir = s.dir := rfl
@[simp] theorem setRecord_survey (k : FaultKind) (r : FaultRecord) : (s.setRecord k r).survey = s.survey := rfl
@[simp] theorem setRecord_line (k : FaultKind) (r : FaultRecord) : (s.setRecord k r).line = s.line := rfl
@[simp] theorem setRecord_sched (k : FaultKind) (r : FaultRecord) : (s.setRecord k r).sched = s.sched := rfl
@[simp] theorem setRecord_store (k : FaultKind) (r : FaultRecord) : (s.setRecord k r).store = s.store := rfl
@[simp] theorem setRecord_pool (k : FaultKind) (r : FaultRecord) : (s.setRecord k r).pool = s.pool := rfl
@[simp] theorem setRecord_nodes (k : FaultKind) (r : FaultRecord) : (s.setRecord k r).nodes = s.nodes := rfl
@[simp] theorem setRecord_freeIndex (k : FaultKind) (r : FaultRecord) : (s.setRecord k r).freeIndex = s.freeIndex := rfl
@[simp] theorem setRecord_pending (k : FaultKind) (r : FaultRecord) : (s.setRecord k r).pending = s.pending := rfl
@[simp] theorem setRecord_now (k : FaultKind) (r : FaultRecord) : (s.setRecord k r).now = s.now := rfl
@[simp] theorem setRecord_live (k : FaultKind) (r : FaultRecord) : (s.setRecord k r).live = s.live := rfl
@[simp] theorem setRecord_entry (k : FaultKind) (r : FaultRecord) (j : Slot) : (s.setRecord k r).entry j = s.entry j := rfl
@[simp] theorem setRecord_ring (k : FaultKind) (r : FaultRecord) (j : Slot) : (s.setRecord k r).ring j = s.ring j := rfl
@[simp] theorem setRecord_reaction (k : FaultKind) (r : FaultRecord) (kind : FaultKind) : (s.setRecord k r).reaction kind = s.reaction kind := rfl
@[simp] theorem setRecord_isDue (k : FaultKind) (r : FaultRecord) (j : Slot) : (s.setRecord k r).isDue j = s.isDue j := rfl
@[simp] theorem setRecord_isChanged (k : FaultKind) (r : FaultRecord) (j : Slot) : (s.setRecord k r).isChanged j = s.isChanged j := rfl

/-! ## setTxn -/

@[simp] theorem setTxn_start (t : Option Transaction) : (s.setTxn t).start = s.start := rfl
@[simp] theorem setTxn_settings (t : Option Transaction) : (s.setTxn t).settings = s.settings := rfl
@[simp] theorem setTxn_link (t : Option Transaction) : (s.setTxn t).link = s.link := rfl
@[simp] theorem setTxn_dir (t : Option Transaction) : (s.setTxn t).dir = s.dir := rfl
@[simp] theorem setTxn_survey (t : Option Transaction) : (s.setTxn t).survey = s.survey := rfl
@[simp] theorem setTxn_sched (t : Option Transaction) : (s.setTxn t).sched = s.sched := rfl
@[simp] theorem setTxn_store (t : Option Transaction) : (s.setTxn t).store = s.store := rfl
@[simp] theorem setTxn_pool (t : Option Transaction) : (s.setTxn t).pool = s.pool := rfl
@[simp] theorem setTxn_faults (t : Option Transaction) : (s.setTxn t).faults = s.faults := rfl
@[simp] theorem setTxn_nodes (t : Option Transaction) : (s.setTxn t).nodes = s.nodes := rfl
@[simp] theorem setTxn_freeIndex (t : Option Transaction) : (s.setTxn t).freeIndex = s.freeIndex := rfl
@[simp] theorem setTxn_pending (t : Option Transaction) : (s.setTxn t).pending = s.pending := rfl
@[simp] theorem setTxn_now (t : Option Transaction) : (s.setTxn t).now = s.now := rfl
@[simp] theorem setTxn_live (t : Option Transaction) : (s.setTxn t).live = s.live := rfl
@[simp] theorem setTxn_entry (t : Option Transaction) (j : Slot) : (s.setTxn t).entry j = s.entry j := rfl
@[simp] theorem setTxn_ring (t : Option Transaction) (j : Slot) : (s.setTxn t).ring j = s.ring j := rfl
@[simp] theorem setTxn_record (t : Option Transaction) (kind : FaultKind) : (s.setTxn t).record kind = s.record kind := rfl
@[simp] theorem setTxn_reaction (t : Option Transaction) (kind : FaultKind) : (s.setTxn t).reaction kind = s.reaction kind := rfl
@[simp] theorem setTxn_isDue (t : Option Transaction) (j : Slot) : (s.setTxn t).isDue j = s.isDue j := rfl
@[simp] theorem setTxn_isChanged (t : Option Transaction) (j : Slot) : (s.setTxn t).isChanged j = s.isChanged j := rfl

/-! ## replied -/

@[simp] theorem replied_start (c : Byte) (st : Status) (rs : List Byte) : (s.replied c st rs).start = s.start := rfl
@[simp] theorem replied_settings (c : Byte) (st : Status) (rs : List Byte) : (s.replied c st rs).settings = s.settings := rfl
@[simp] theorem replied_dir (c : Byte) (st : Status) (rs : List Byte) : (s.replied c st rs).dir = s.dir := rfl
@[simp] theorem replied_survey (c : Byte) (st : Status) (rs : List Byte) : (s.replied c st rs).survey = s.survey := rfl
@[simp] theorem replied_line (c : Byte) (st : Status) (rs : List Byte) : (s.replied c st rs).line = s.line := rfl
@[simp] theorem replied_sched (c : Byte) (st : Status) (rs : List Byte) : (s.replied c st rs).sched = s.sched := rfl
@[simp] theorem replied_store (c : Byte) (st : Status) (rs : List Byte) : (s.replied c st rs).store = s.store := rfl
@[simp] theorem replied_pool (c : Byte) (st : Status) (rs : List Byte) : (s.replied c st rs).pool = s.pool := rfl
@[simp] theorem replied_faults (c : Byte) (st : Status) (rs : List Byte) : (s.replied c st rs).faults = s.faults := rfl
@[simp] theorem replied_nodes (c : Byte) (st : Status) (rs : List Byte) : (s.replied c st rs).nodes = s.nodes := rfl
@[simp] theorem replied_freeIndex (c : Byte) (st : Status) (rs : List Byte) : (s.replied c st rs).freeIndex = s.freeIndex := rfl
@[simp] theorem replied_pending (c : Byte) (st : Status) (rs : List Byte) : (s.replied c st rs).pending = s.pending := rfl
@[simp] theorem replied_now (c : Byte) (st : Status) (rs : List Byte) : (s.replied c st rs).now = s.now := rfl
@[simp] theorem replied_live (c : Byte) (st : Status) (rs : List Byte) : (s.replied c st rs).live = s.live := rfl
@[simp] theorem replied_entry (c : Byte) (st : Status) (rs : List Byte) (j : Slot) : (s.replied c st rs).entry j = s.entry j := rfl
@[simp] theorem replied_ring (c : Byte) (st : Status) (rs : List Byte) (j : Slot) : (s.replied c st rs).ring j = s.ring j := rfl
@[simp] theorem replied_record (c : Byte) (st : Status) (rs : List Byte) (kind : FaultKind) : (s.replied c st rs).record kind = s.record kind := rfl
@[simp] theorem replied_reaction (c : Byte) (st : Status) (rs : List Byte) (kind : FaultKind) : (s.replied c st rs).reaction kind = s.reaction kind := rfl
@[simp] theorem replied_isDue (c : Byte) (st : Status) (rs : List Byte) (j : Slot) : (s.replied c st rs).isDue j = s.isDue j := rfl
@[simp] theorem replied_isChanged (c : Byte) (st : Status) (rs : List Byte) (j : Slot) : (s.replied c st rs).isChanged j = s.isChanged j := rfl

/-! ## overrunning -/

@[simp] theorem overrunning_start : (s.overrunning).start = s.start := rfl
@[simp] theorem overrunning_settings : (s.overrunning).settings = s.settings := rfl
@[simp] theorem overrunning_dir : (s.overrunning).dir = s.dir := rfl
@[simp] theorem overrunning_survey : (s.overrunning).survey = s.survey := rfl
@[simp] theorem overrunning_line : (s.overrunning).line = s.line := rfl
@[simp] theorem overrunning_sched : (s.overrunning).sched = s.sched := rfl
@[simp] theorem overrunning_store : (s.overrunning).store = s.store := rfl
@[simp] theorem overrunning_pool : (s.overrunning).pool = s.pool := rfl
@[simp] theorem overrunning_faults : (s.overrunning).faults = s.faults := rfl
@[simp] theorem overrunning_nodes : (s.overrunning).nodes = s.nodes := rfl
@[simp] theorem overrunning_freeIndex : (s.overrunning).freeIndex = s.freeIndex := rfl
@[simp] theorem overrunning_pending : (s.overrunning).pending = s.pending := rfl
@[simp] theorem overrunning_now : (s.overrunning).now = s.now := rfl
@[simp] theorem overrunning_live : (s.overrunning).live = s.live := rfl
@[simp] theorem overrunning_entry (j : Slot) : (s.overrunning).entry j = s.entry j := rfl
@[simp] theorem overrunning_ring (j : Slot) : (s.overrunning).ring j = s.ring j := rfl
@[simp] theorem overrunning_record (kind : FaultKind) : (s.overrunning).record kind = s.record kind := rfl
@[simp] theorem overrunning_reaction (kind : FaultKind) : (s.overrunning).reaction kind = s.reaction kind := rfl
@[simp] theorem overrunning_isDue (j : Slot) : (s.overrunning).isDue j = s.isDue j := rfl
@[simp] theorem overrunning_isChanged (j : Slot) : (s.overrunning).isChanged j = s.isChanged j := rfl

/-! ## latchFault -/

@[simp] theorem latchFault_start : (s.latchFault).start = s.start := rfl
@[simp] theorem latchFault_settings : (s.latchFault).settings = s.settings := rfl
@[simp] theorem latchFault_dir : (s.latchFault).dir = s.dir := rfl
@[simp] theorem latchFault_survey : (s.latchFault).survey = s.survey := rfl
@[simp] theorem latchFault_line : (s.latchFault).line = s.line := rfl
@[simp] theorem latchFault_sched : (s.latchFault).sched = s.sched := rfl
@[simp] theorem latchFault_store : (s.latchFault).store = s.store := rfl
@[simp] theorem latchFault_pool : (s.latchFault).pool = s.pool := rfl
@[simp] theorem latchFault_faults : (s.latchFault).faults = s.faults := rfl
@[simp] theorem latchFault_nodes : (s.latchFault).nodes = s.nodes := rfl
@[simp] theorem latchFault_freeIndex : (s.latchFault).freeIndex = s.freeIndex := rfl
@[simp] theorem latchFault_pending : (s.latchFault).pending = s.pending := rfl
@[simp] theorem latchFault_now : (s.latchFault).now = s.now := rfl
@[simp] theorem latchFault_live : (s.latchFault).live = s.live := rfl
@[simp] theorem latchFault_entry (j : Slot) : (s.latchFault).entry j = s.entry j := rfl
@[simp] theorem latchFault_ring (j : Slot) : (s.latchFault).ring j = s.ring j := rfl
@[simp] theorem latchFault_record (kind : FaultKind) : (s.latchFault).record kind = s.record kind := rfl
@[simp] theorem latchFault_reaction (kind : FaultKind) : (s.latchFault).reaction kind = s.reaction kind := rfl
@[simp] theorem latchFault_isDue (j : Slot) : (s.latchFault).isDue j = s.isDue j := rfl
@[simp] theorem latchFault_isChanged (j : Slot) : (s.latchFault).isChanged j = s.isChanged j := rfl

/-! ## askHold -/

@[simp] theorem askHold_start : (s.askHold).start = s.start := rfl
@[simp] theorem askHold_settings : (s.askHold).settings = s.settings := rfl
@[simp] theorem askHold_link : (s.askHold).link = s.link := rfl
@[simp] theorem askHold_dir : (s.askHold).dir = s.dir := rfl
@[simp] theorem askHold_survey : (s.askHold).survey = s.survey := rfl
@[simp] theorem askHold_line : (s.askHold).line = s.line := rfl
@[simp] theorem askHold_sched : (s.askHold).sched = s.sched := rfl
@[simp] theorem askHold_store : (s.askHold).store = s.store := rfl
@[simp] theorem askHold_pool : (s.askHold).pool = s.pool := rfl
@[simp] theorem askHold_nodes : (s.askHold).nodes = s.nodes := rfl
@[simp] theorem askHold_freeIndex : (s.askHold).freeIndex = s.freeIndex := rfl
@[simp] theorem askHold_pending : (s.askHold).pending = s.pending := rfl
@[simp] theorem askHold_now : (s.askHold).now = s.now := rfl
@[simp] theorem askHold_live : (s.askHold).live = s.live := rfl
@[simp] theorem askHold_entry (j : Slot) : (s.askHold).entry j = s.entry j := rfl
@[simp] theorem askHold_ring (j : Slot) : (s.askHold).ring j = s.ring j := rfl
@[simp] theorem askHold_record (kind : FaultKind) : (s.askHold).record kind = s.record kind := rfl
@[simp] theorem askHold_reaction (kind : FaultKind) : (s.askHold).reaction kind = s.reaction kind := rfl
@[simp] theorem askHold_isDue (j : Slot) : (s.askHold).isDue j = s.isDue j := rfl
@[simp] theorem askHold_isChanged (j : Slot) : (s.askHold).isChanged j = s.isChanged j := rfl

/-! ## setPool -/

@[simp] theorem setPool_start (p : Pool) : (s.setPool p).start = s.start := rfl
@[simp] theorem setPool_settings (p : Pool) : (s.setPool p).settings = s.settings := rfl
@[simp] theorem setPool_link (p : Pool) : (s.setPool p).link = s.link := rfl
@[simp] theorem setPool_dir (p : Pool) : (s.setPool p).dir = s.dir := rfl
@[simp] theorem setPool_survey (p : Pool) : (s.setPool p).survey = s.survey := rfl
@[simp] theorem setPool_line (p : Pool) : (s.setPool p).line = s.line := rfl
@[simp] theorem setPool_sched (p : Pool) : (s.setPool p).sched = s.sched := rfl
@[simp] theorem setPool_store (p : Pool) : (s.setPool p).store = s.store := rfl
@[simp] theorem setPool_faults (p : Pool) : (s.setPool p).faults = s.faults := rfl
@[simp] theorem setPool_nodes (p : Pool) : (s.setPool p).nodes = s.nodes := rfl
@[simp] theorem setPool_freeIndex (p : Pool) : (s.setPool p).freeIndex = s.freeIndex := rfl
@[simp] theorem setPool_pending (p : Pool) : (s.setPool p).pending = s.pending := rfl
@[simp] theorem setPool_now (p : Pool) : (s.setPool p).now = s.now := rfl
@[simp] theorem setPool_live (p : Pool) : (s.setPool p).live = s.live := rfl
@[simp] theorem setPool_entry (p : Pool) (j : Slot) : (s.setPool p).entry j = s.entry j := rfl
@[simp] theorem setPool_ring (p : Pool) (j : Slot) : (s.setPool p).ring j = s.ring j := rfl
@[simp] theorem setPool_record (p : Pool) (kind : FaultKind) : (s.setPool p).record kind = s.record kind := rfl
@[simp] theorem setPool_reaction (p : Pool) (kind : FaultKind) : (s.setPool p).reaction kind = s.reaction kind := rfl
@[simp] theorem setPool_isDue (p : Pool) (j : Slot) : (s.setPool p).isDue j = s.isDue j := rfl
@[simp] theorem setPool_isChanged (p : Pool) (j : Slot) : (s.setPool p).isChanged j = s.isChanged j := rfl

/-! ## setSurvey -/

@[simp] theorem setSurvey_start (u : SurveyUnit) : (s.setSurvey u).start = s.start := rfl
@[simp] theorem setSurvey_settings (u : SurveyUnit) : (s.setSurvey u).settings = s.settings := rfl
@[simp] theorem setSurvey_link (u : SurveyUnit) : (s.setSurvey u).link = s.link := rfl
@[simp] theorem setSurvey_dir (u : SurveyUnit) : (s.setSurvey u).dir = s.dir := rfl
@[simp] theorem setSurvey_line (u : SurveyUnit) : (s.setSurvey u).line = s.line := rfl
@[simp] theorem setSurvey_sched (u : SurveyUnit) : (s.setSurvey u).sched = s.sched := rfl
@[simp] theorem setSurvey_store (u : SurveyUnit) : (s.setSurvey u).store = s.store := rfl
@[simp] theorem setSurvey_pool (u : SurveyUnit) : (s.setSurvey u).pool = s.pool := rfl
@[simp] theorem setSurvey_faults (u : SurveyUnit) : (s.setSurvey u).faults = s.faults := rfl
@[simp] theorem setSurvey_nodes (u : SurveyUnit) : (s.setSurvey u).nodes = s.nodes := rfl
@[simp] theorem setSurvey_freeIndex (u : SurveyUnit) : (s.setSurvey u).freeIndex = s.freeIndex := rfl
@[simp] theorem setSurvey_pending (u : SurveyUnit) : (s.setSurvey u).pending = s.pending := rfl
@[simp] theorem setSurvey_now (u : SurveyUnit) : (s.setSurvey u).now = s.now := rfl
@[simp] theorem setSurvey_live (u : SurveyUnit) : (s.setSurvey u).live = s.live := rfl
@[simp] theorem setSurvey_entry (u : SurveyUnit) (j : Slot) : (s.setSurvey u).entry j = s.entry j := rfl
@[simp] theorem setSurvey_ring (u : SurveyUnit) (j : Slot) : (s.setSurvey u).ring j = s.ring j := rfl
@[simp] theorem setSurvey_record (u : SurveyUnit) (kind : FaultKind) : (s.setSurvey u).record kind = s.record kind := rfl
@[simp] theorem setSurvey_reaction (u : SurveyUnit) (kind : FaultKind) : (s.setSurvey u).reaction kind = s.reaction kind := rfl
@[simp] theorem setSurvey_isDue (u : SurveyUnit) (j : Slot) : (s.setSurvey u).isDue j = s.isDue j := rfl
@[simp] theorem setSurvey_isChanged (u : SurveyUnit) (j : Slot) : (s.setSurvey u).isChanged j = s.isChanged j := rfl

/-! ## setSurveyRecord -/

@[simp] theorem setSurveyRecord_start (r : SurveyRecord) : (s.setSurveyRecord r).start = s.start := rfl
@[simp] theorem setSurveyRecord_settings (r : SurveyRecord) : (s.setSurveyRecord r).settings = s.settings := rfl
@[simp] theorem setSurveyRecord_link (r : SurveyRecord) : (s.setSurveyRecord r).link = s.link := rfl
@[simp] theorem setSurveyRecord_dir (r : SurveyRecord) : (s.setSurveyRecord r).dir = s.dir := rfl
@[simp] theorem setSurveyRecord_line (r : SurveyRecord) : (s.setSurveyRecord r).line = s.line := rfl
@[simp] theorem setSurveyRecord_sched (r : SurveyRecord) : (s.setSurveyRecord r).sched = s.sched := rfl
@[simp] theorem setSurveyRecord_store (r : SurveyRecord) : (s.setSurveyRecord r).store = s.store := rfl
@[simp] theorem setSurveyRecord_pool (r : SurveyRecord) : (s.setSurveyRecord r).pool = s.pool := rfl
@[simp] theorem setSurveyRecord_faults (r : SurveyRecord) : (s.setSurveyRecord r).faults = s.faults := rfl
@[simp] theorem setSurveyRecord_nodes (r : SurveyRecord) : (s.setSurveyRecord r).nodes = s.nodes := rfl
@[simp] theorem setSurveyRecord_freeIndex (r : SurveyRecord) : (s.setSurveyRecord r).freeIndex = s.freeIndex := rfl
@[simp] theorem setSurveyRecord_pending (r : SurveyRecord) : (s.setSurveyRecord r).pending = s.pending := rfl
@[simp] theorem setSurveyRecord_now (r : SurveyRecord) : (s.setSurveyRecord r).now = s.now := rfl
@[simp] theorem setSurveyRecord_live (r : SurveyRecord) : (s.setSurveyRecord r).live = s.live := rfl
@[simp] theorem setSurveyRecord_entry (r : SurveyRecord) (j : Slot) : (s.setSurveyRecord r).entry j = s.entry j := rfl
@[simp] theorem setSurveyRecord_ring (r : SurveyRecord) (j : Slot) : (s.setSurveyRecord r).ring j = s.ring j := rfl
@[simp] theorem setSurveyRecord_record (r : SurveyRecord) (kind : FaultKind) : (s.setSurveyRecord r).record kind = s.record kind := rfl
@[simp] theorem setSurveyRecord_reaction (r : SurveyRecord) (kind : FaultKind) : (s.setSurveyRecord r).reaction kind = s.reaction kind := rfl
@[simp] theorem setSurveyRecord_isDue (r : SurveyRecord) (j : Slot) : (s.setSurveyRecord r).isDue j = s.isDue j := rfl
@[simp] theorem setSurveyRecord_isChanged (r : SurveyRecord) (j : Slot) : (s.setSurveyRecord r).isChanged j = s.isChanged j := rfl

/-! ## setRound -/

@[simp] theorem setRound_start (r : Option Round) : (s.setRound r).start = s.start := rfl
@[simp] theorem setRound_settings (r : Option Round) : (s.setRound r).settings = s.settings := rfl
@[simp] theorem setRound_link (r : Option Round) : (s.setRound r).link = s.link := rfl
@[simp] theorem setRound_dir (r : Option Round) : (s.setRound r).dir = s.dir := rfl
@[simp] theorem setRound_line (r : Option Round) : (s.setRound r).line = s.line := rfl
@[simp] theorem setRound_sched (r : Option Round) : (s.setRound r).sched = s.sched := rfl
@[simp] theorem setRound_store (r : Option Round) : (s.setRound r).store = s.store := rfl
@[simp] theorem setRound_pool (r : Option Round) : (s.setRound r).pool = s.pool := rfl
@[simp] theorem setRound_faults (r : Option Round) : (s.setRound r).faults = s.faults := rfl
@[simp] theorem setRound_nodes (r : Option Round) : (s.setRound r).nodes = s.nodes := rfl
@[simp] theorem setRound_freeIndex (r : Option Round) : (s.setRound r).freeIndex = s.freeIndex := rfl
@[simp] theorem setRound_pending (r : Option Round) : (s.setRound r).pending = s.pending := rfl
@[simp] theorem setRound_now (r : Option Round) : (s.setRound r).now = s.now := rfl
@[simp] theorem setRound_live (r : Option Round) : (s.setRound r).live = s.live := rfl
@[simp] theorem setRound_entry (r : Option Round) (j : Slot) : (s.setRound r).entry j = s.entry j := rfl
@[simp] theorem setRound_ring (r : Option Round) (j : Slot) : (s.setRound r).ring j = s.ring j := rfl
@[simp] theorem setRound_record (r : Option Round) (kind : FaultKind) : (s.setRound r).record kind = s.record kind := rfl
@[simp] theorem setRound_reaction (r : Option Round) (kind : FaultKind) : (s.setRound r).reaction kind = s.reaction kind := rfl
@[simp] theorem setRound_isDue (r : Option Round) (j : Slot) : (s.setRound r).isDue j = s.isDue j := rfl
@[simp] theorem setRound_isChanged (r : Option Round) (j : Slot) : (s.setRound r).isChanged j = s.isChanged j := rfl

/-! ## setLine -/

@[simp] theorem setLine_start (l : LineEngine) : (s.setLine l).start = s.start := rfl
@[simp] theorem setLine_settings (l : LineEngine) : (s.setLine l).settings = s.settings := rfl
@[simp] theorem setLine_link (l : LineEngine) : (s.setLine l).link = s.link := rfl
@[simp] theorem setLine_dir (l : LineEngine) : (s.setLine l).dir = s.dir := rfl
@[simp] theorem setLine_survey (l : LineEngine) : (s.setLine l).survey = s.survey := rfl
@[simp] theorem setLine_sched (l : LineEngine) : (s.setLine l).sched = s.sched := rfl
@[simp] theorem setLine_store (l : LineEngine) : (s.setLine l).store = s.store := rfl
@[simp] theorem setLine_pool (l : LineEngine) : (s.setLine l).pool = s.pool := rfl
@[simp] theorem setLine_faults (l : LineEngine) : (s.setLine l).faults = s.faults := rfl
@[simp] theorem setLine_nodes (l : LineEngine) : (s.setLine l).nodes = s.nodes := rfl
@[simp] theorem setLine_freeIndex (l : LineEngine) : (s.setLine l).freeIndex = s.freeIndex := rfl
@[simp] theorem setLine_pending (l : LineEngine) : (s.setLine l).pending = s.pending := rfl
@[simp] theorem setLine_now (l : LineEngine) : (s.setLine l).now = s.now := rfl
@[simp] theorem setLine_live (l : LineEngine) : (s.setLine l).live = s.live := rfl
@[simp] theorem setLine_entry (l : LineEngine) (j : Slot) : (s.setLine l).entry j = s.entry j := rfl
@[simp] theorem setLine_ring (l : LineEngine) (j : Slot) : (s.setLine l).ring j = s.ring j := rfl
@[simp] theorem setLine_record (l : LineEngine) (kind : FaultKind) : (s.setLine l).record kind = s.record kind := rfl
@[simp] theorem setLine_reaction (l : LineEngine) (kind : FaultKind) : (s.setLine l).reaction kind = s.reaction kind := rfl
@[simp] theorem setLine_isDue (l : LineEngine) (j : Slot) : (s.setLine l).isDue j = s.isDue j := rfl
@[simp] theorem setLine_isChanged (l : LineEngine) (j : Slot) : (s.setLine l).isChanged j = s.isChanged j := rfl

/-! ## setStart -/

@[simp] theorem setStart_settings (x : StartState) : (s.setStart x).settings = s.settings := rfl
@[simp] theorem setStart_link (x : StartState) : (s.setStart x).link = s.link := rfl
@[simp] theorem setStart_dir (x : StartState) : (s.setStart x).dir = s.dir := rfl
@[simp] theorem setStart_survey (x : StartState) : (s.setStart x).survey = s.survey := rfl
@[simp] theorem setStart_line (x : StartState) : (s.setStart x).line = s.line := rfl
@[simp] theorem setStart_sched (x : StartState) : (s.setStart x).sched = s.sched := rfl
@[simp] theorem setStart_store (x : StartState) : (s.setStart x).store = s.store := rfl
@[simp] theorem setStart_pool (x : StartState) : (s.setStart x).pool = s.pool := rfl
@[simp] theorem setStart_faults (x : StartState) : (s.setStart x).faults = s.faults := rfl
@[simp] theorem setStart_nodes (x : StartState) : (s.setStart x).nodes = s.nodes := rfl
@[simp] theorem setStart_freeIndex (x : StartState) : (s.setStart x).freeIndex = s.freeIndex := rfl
@[simp] theorem setStart_pending (x : StartState) : (s.setStart x).pending = s.pending := rfl
@[simp] theorem setStart_entry (x : StartState) (j : Slot) : (s.setStart x).entry j = s.entry j := rfl
@[simp] theorem setStart_ring (x : StartState) (j : Slot) : (s.setStart x).ring j = s.ring j := rfl
@[simp] theorem setStart_record (x : StartState) (kind : FaultKind) : (s.setStart x).record kind = s.record kind := rfl
@[simp] theorem setStart_reaction (x : StartState) (kind : FaultKind) : (s.setStart x).reaction kind = s.reaction kind := rfl
@[simp] theorem setStart_isDue (x : StartState) (j : Slot) : (s.setStart x).isDue j = s.isDue j := rfl
@[simp] theorem setStart_isChanged (x : StartState) (j : Slot) : (s.setStart x).isChanged j = s.isChanged j := rfl

/-! ## setLink -/

@[simp] theorem setLink_start (l : LinkState) : (s.setLink l).start = s.start := rfl
@[simp] theorem setLink_settings (l : LinkState) : (s.setLink l).settings = s.settings := rfl
@[simp] theorem setLink_dir (l : LinkState) : (s.setLink l).dir = s.dir := rfl
@[simp] theorem setLink_survey (l : LinkState) : (s.setLink l).survey = s.survey := rfl
@[simp] theorem setLink_line (l : LinkState) : (s.setLink l).line = s.line := rfl
@[simp] theorem setLink_sched (l : LinkState) : (s.setLink l).sched = s.sched := rfl
@[simp] theorem setLink_store (l : LinkState) : (s.setLink l).store = s.store := rfl
@[simp] theorem setLink_pool (l : LinkState) : (s.setLink l).pool = s.pool := rfl
@[simp] theorem setLink_faults (l : LinkState) : (s.setLink l).faults = s.faults := rfl
@[simp] theorem setLink_nodes (l : LinkState) : (s.setLink l).nodes = s.nodes := rfl
@[simp] theorem setLink_freeIndex (l : LinkState) : (s.setLink l).freeIndex = s.freeIndex := rfl
@[simp] theorem setLink_pending (l : LinkState) : (s.setLink l).pending = s.pending := rfl
@[simp] theorem setLink_now (l : LinkState) : (s.setLink l).now = s.now := rfl
@[simp] theorem setLink_live (l : LinkState) : (s.setLink l).live = s.live := rfl
@[simp] theorem setLink_entry (l : LinkState) (j : Slot) : (s.setLink l).entry j = s.entry j := rfl
@[simp] theorem setLink_ring (l : LinkState) (j : Slot) : (s.setLink l).ring j = s.ring j := rfl
@[simp] theorem setLink_record (l : LinkState) (kind : FaultKind) : (s.setLink l).record kind = s.record kind := rfl
@[simp] theorem setLink_reaction (l : LinkState) (kind : FaultKind) : (s.setLink l).reaction kind = s.reaction kind := rfl
@[simp] theorem setLink_isDue (l : LinkState) (j : Slot) : (s.setLink l).isDue j = s.isDue j := rfl
@[simp] theorem setLink_isChanged (l : LinkState) (j : Slot) : (s.setLink l).isChanged j = s.isChanged j := rfl

/-! ## setSettings -/

@[simp] theorem setSettings_start (x : SettingsState) : (s.setSettings x).start = s.start := rfl
@[simp] theorem setSettings_link (x : SettingsState) : (s.setSettings x).link = s.link := rfl
@[simp] theorem setSettings_dir (x : SettingsState) : (s.setSettings x).dir = s.dir := rfl
@[simp] theorem setSettings_survey (x : SettingsState) : (s.setSettings x).survey = s.survey := rfl
@[simp] theorem setSettings_line (x : SettingsState) : (s.setSettings x).line = s.line := rfl
@[simp] theorem setSettings_sched (x : SettingsState) : (s.setSettings x).sched = s.sched := rfl
@[simp] theorem setSettings_store (x : SettingsState) : (s.setSettings x).store = s.store := rfl
@[simp] theorem setSettings_pool (x : SettingsState) : (s.setSettings x).pool = s.pool := rfl
@[simp] theorem setSettings_faults (x : SettingsState) : (s.setSettings x).faults = s.faults := rfl
@[simp] theorem setSettings_nodes (x : SettingsState) : (s.setSettings x).nodes = s.nodes := rfl
@[simp] theorem setSettings_freeIndex (x : SettingsState) : (s.setSettings x).freeIndex = s.freeIndex := rfl
@[simp] theorem setSettings_pending (x : SettingsState) : (s.setSettings x).pending = s.pending := rfl
@[simp] theorem setSettings_now (x : SettingsState) : (s.setSettings x).now = s.now := rfl
@[simp] theorem setSettings_live (x : SettingsState) : (s.setSettings x).live = s.live := rfl
@[simp] theorem setSettings_entry (x : SettingsState) (j : Slot) : (s.setSettings x).entry j = s.entry j := rfl
@[simp] theorem setSettings_ring (x : SettingsState) (j : Slot) : (s.setSettings x).ring j = s.ring j := rfl
@[simp] theorem setSettings_record (x : SettingsState) (kind : FaultKind) : (s.setSettings x).record kind = s.record kind := rfl
@[simp] theorem setSettings_reaction (x : SettingsState) (kind : FaultKind) : (s.setSettings x).reaction kind = s.reaction kind := rfl
@[simp] theorem setSettings_isDue (x : SettingsState) (j : Slot) : (s.setSettings x).isDue j = s.isDue j := rfl
@[simp] theorem setSettings_isChanged (x : SettingsState) (j : Slot) : (s.setSettings x).isChanged j = s.isChanged j := rfl

/-! ## setReaction -/

@[simp] theorem setReaction_start (k : FaultKind) (r : Reaction) : (s.setReaction k r).start = s.start := rfl
@[simp] theorem setReaction_settings (k : FaultKind) (r : Reaction) : (s.setReaction k r).settings = s.settings := rfl
@[simp] theorem setReaction_link (k : FaultKind) (r : Reaction) : (s.setReaction k r).link = s.link := rfl
@[simp] theorem setReaction_dir (k : FaultKind) (r : Reaction) : (s.setReaction k r).dir = s.dir := rfl
@[simp] theorem setReaction_survey (k : FaultKind) (r : Reaction) : (s.setReaction k r).survey = s.survey := rfl
@[simp] theorem setReaction_line (k : FaultKind) (r : Reaction) : (s.setReaction k r).line = s.line := rfl
@[simp] theorem setReaction_sched (k : FaultKind) (r : Reaction) : (s.setReaction k r).sched = s.sched := rfl
@[simp] theorem setReaction_store (k : FaultKind) (r : Reaction) : (s.setReaction k r).store = s.store := rfl
@[simp] theorem setReaction_pool (k : FaultKind) (r : Reaction) : (s.setReaction k r).pool = s.pool := rfl
@[simp] theorem setReaction_nodes (k : FaultKind) (r : Reaction) : (s.setReaction k r).nodes = s.nodes := rfl
@[simp] theorem setReaction_freeIndex (k : FaultKind) (r : Reaction) : (s.setReaction k r).freeIndex = s.freeIndex := rfl
@[simp] theorem setReaction_pending (k : FaultKind) (r : Reaction) : (s.setReaction k r).pending = s.pending := rfl
@[simp] theorem setReaction_now (k : FaultKind) (r : Reaction) : (s.setReaction k r).now = s.now := rfl
@[simp] theorem setReaction_live (k : FaultKind) (r : Reaction) : (s.setReaction k r).live = s.live := rfl
@[simp] theorem setReaction_entry (k : FaultKind) (r : Reaction) (j : Slot) : (s.setReaction k r).entry j = s.entry j := rfl
@[simp] theorem setReaction_ring (k : FaultKind) (r : Reaction) (j : Slot) : (s.setReaction k r).ring j = s.ring j := rfl
@[simp] theorem setReaction_record (k : FaultKind) (r : Reaction) (kind : FaultKind) : (s.setReaction k r).record kind = s.record kind := rfl
@[simp] theorem setReaction_isDue (k : FaultKind) (r : Reaction) (j : Slot) : (s.setReaction k r).isDue j = s.isDue j := rfl
@[simp] theorem setReaction_isChanged (k : FaultKind) (r : Reaction) (j : Slot) : (s.setReaction k r).isChanged j = s.isChanged j := rfl

/-! ## setRx -/

@[simp] theorem setRx_start (r : Receiver) : (s.setRx r).start = s.start := rfl
@[simp] theorem setRx_settings (r : Receiver) : (s.setRx r).settings = s.settings := rfl
@[simp] theorem setRx_dir (r : Receiver) : (s.setRx r).dir = s.dir := rfl
@[simp] theorem setRx_survey (r : Receiver) : (s.setRx r).survey = s.survey := rfl
@[simp] theorem setRx_line (r : Receiver) : (s.setRx r).line = s.line := rfl
@[simp] theorem setRx_sched (r : Receiver) : (s.setRx r).sched = s.sched := rfl
@[simp] theorem setRx_store (r : Receiver) : (s.setRx r).store = s.store := rfl
@[simp] theorem setRx_pool (r : Receiver) : (s.setRx r).pool = s.pool := rfl
@[simp] theorem setRx_faults (r : Receiver) : (s.setRx r).faults = s.faults := rfl
@[simp] theorem setRx_nodes (r : Receiver) : (s.setRx r).nodes = s.nodes := rfl
@[simp] theorem setRx_freeIndex (r : Receiver) : (s.setRx r).freeIndex = s.freeIndex := rfl
@[simp] theorem setRx_pending (r : Receiver) : (s.setRx r).pending = s.pending := rfl
@[simp] theorem setRx_now (r : Receiver) : (s.setRx r).now = s.now := rfl
@[simp] theorem setRx_live (r : Receiver) : (s.setRx r).live = s.live := rfl
@[simp] theorem setRx_entry (r : Receiver) (j : Slot) : (s.setRx r).entry j = s.entry j := rfl
@[simp] theorem setRx_ring (r : Receiver) (j : Slot) : (s.setRx r).ring j = s.ring j := rfl
@[simp] theorem setRx_record (r : Receiver) (kind : FaultKind) : (s.setRx r).record kind = s.record kind := rfl
@[simp] theorem setRx_reaction (r : Receiver) (kind : FaultKind) : (s.setRx r).reaction kind = s.reaction kind := rfl
@[simp] theorem setRx_isDue (r : Receiver) (j : Slot) : (s.setRx r).isDue j = s.isDue j := rfl
@[simp] theorem setRx_isChanged (r : Receiver) (j : Slot) : (s.setRx r).isChanged j = s.isChanged j := rfl

/-! ## nodesHear -/

@[simp] theorem nodesHear_start (f : LineFrame) (missed : List Nat) : (s.nodesHear f missed).start = s.start := rfl
@[simp] theorem nodesHear_settings (f : LineFrame) (missed : List Nat) : (s.nodesHear f missed).settings = s.settings := rfl
@[simp] theorem nodesHear_link (f : LineFrame) (missed : List Nat) : (s.nodesHear f missed).link = s.link := rfl
@[simp] theorem nodesHear_dir (f : LineFrame) (missed : List Nat) : (s.nodesHear f missed).dir = s.dir := rfl
@[simp] theorem nodesHear_survey (f : LineFrame) (missed : List Nat) : (s.nodesHear f missed).survey = s.survey := rfl
@[simp] theorem nodesHear_line (f : LineFrame) (missed : List Nat) : (s.nodesHear f missed).line = s.line := rfl
@[simp] theorem nodesHear_sched (f : LineFrame) (missed : List Nat) : (s.nodesHear f missed).sched = s.sched := rfl
@[simp] theorem nodesHear_store (f : LineFrame) (missed : List Nat) : (s.nodesHear f missed).store = s.store := rfl
@[simp] theorem nodesHear_pool (f : LineFrame) (missed : List Nat) : (s.nodesHear f missed).pool = s.pool := rfl
@[simp] theorem nodesHear_faults (f : LineFrame) (missed : List Nat) : (s.nodesHear f missed).faults = s.faults := rfl
@[simp] theorem nodesHear_freeIndex (f : LineFrame) (missed : List Nat) : (s.nodesHear f missed).freeIndex = s.freeIndex := rfl
@[simp] theorem nodesHear_pending (f : LineFrame) (missed : List Nat) : (s.nodesHear f missed).pending = s.pending := rfl
@[simp] theorem nodesHear_now (f : LineFrame) (missed : List Nat) : (s.nodesHear f missed).now = s.now := rfl
@[simp] theorem nodesHear_live (f : LineFrame) (missed : List Nat) : (s.nodesHear f missed).live = s.live := rfl
@[simp] theorem nodesHear_entry (f : LineFrame) (missed : List Nat) (j : Slot) : (s.nodesHear f missed).entry j = s.entry j := rfl
@[simp] theorem nodesHear_ring (f : LineFrame) (missed : List Nat) (j : Slot) : (s.nodesHear f missed).ring j = s.ring j := rfl
@[simp] theorem nodesHear_record (f : LineFrame) (missed : List Nat) (kind : FaultKind) : (s.nodesHear f missed).record kind = s.record kind := rfl
@[simp] theorem nodesHear_reaction (f : LineFrame) (missed : List Nat) (kind : FaultKind) : (s.nodesHear f missed).reaction kind = s.reaction kind := rfl
@[simp] theorem nodesHear_isDue (f : LineFrame) (missed : List Nat) (j : Slot) : (s.nodesHear f missed).isDue j = s.isDue j := rfl
@[simp] theorem nodesHear_isChanged (f : LineFrame) (missed : List Nat) (j : Slot) : (s.nodesHear f missed).isChanged j = s.isChanged j := rfl

/-! ## nodesLeave -/

@[simp] theorem nodesLeave_start : (s.nodesLeave).start = s.start := rfl
@[simp] theorem nodesLeave_settings : (s.nodesLeave).settings = s.settings := rfl
@[simp] theorem nodesLeave_link : (s.nodesLeave).link = s.link := rfl
@[simp] theorem nodesLeave_dir : (s.nodesLeave).dir = s.dir := rfl
@[simp] theorem nodesLeave_survey : (s.nodesLeave).survey = s.survey := rfl
@[simp] theorem nodesLeave_line : (s.nodesLeave).line = s.line := rfl
@[simp] theorem nodesLeave_sched : (s.nodesLeave).sched = s.sched := rfl
@[simp] theorem nodesLeave_store : (s.nodesLeave).store = s.store := rfl
@[simp] theorem nodesLeave_pool : (s.nodesLeave).pool = s.pool := rfl
@[simp] theorem nodesLeave_faults : (s.nodesLeave).faults = s.faults := rfl
@[simp] theorem nodesLeave_freeIndex : (s.nodesLeave).freeIndex = s.freeIndex := rfl
@[simp] theorem nodesLeave_pending : (s.nodesLeave).pending = s.pending := rfl
@[simp] theorem nodesLeave_now : (s.nodesLeave).now = s.now := rfl
@[simp] theorem nodesLeave_live : (s.nodesLeave).live = s.live := rfl
@[simp] theorem nodesLeave_entry (j : Slot) : (s.nodesLeave).entry j = s.entry j := rfl
@[simp] theorem nodesLeave_ring (j : Slot) : (s.nodesLeave).ring j = s.ring j := rfl
@[simp] theorem nodesLeave_record (kind : FaultKind) : (s.nodesLeave).record kind = s.record kind := rfl
@[simp] theorem nodesLeave_reaction (kind : FaultKind) : (s.nodesLeave).reaction kind = s.reaction kind := rfl
@[simp] theorem nodesLeave_isDue (j : Slot) : (s.nodesLeave).isDue j = s.isDue j := rfl
@[simp] theorem nodesLeave_isChanged (j : Slot) : (s.nodesLeave).isChanged j = s.isChanged j := rfl

/-! ## nodesContend -/

@[simp] theorem nodesContend_start (levels : BitVec 56) : (s.nodesContend levels).start = s.start := rfl
@[simp] theorem nodesContend_settings (levels : BitVec 56) : (s.nodesContend levels).settings = s.settings := rfl
@[simp] theorem nodesContend_link (levels : BitVec 56) : (s.nodesContend levels).link = s.link := rfl
@[simp] theorem nodesContend_dir (levels : BitVec 56) : (s.nodesContend levels).dir = s.dir := rfl
@[simp] theorem nodesContend_survey (levels : BitVec 56) : (s.nodesContend levels).survey = s.survey := rfl
@[simp] theorem nodesContend_line (levels : BitVec 56) : (s.nodesContend levels).line = s.line := rfl
@[simp] theorem nodesContend_sched (levels : BitVec 56) : (s.nodesContend levels).sched = s.sched := rfl
@[simp] theorem nodesContend_store (levels : BitVec 56) : (s.nodesContend levels).store = s.store := rfl
@[simp] theorem nodesContend_pool (levels : BitVec 56) : (s.nodesContend levels).pool = s.pool := rfl
@[simp] theorem nodesContend_faults (levels : BitVec 56) : (s.nodesContend levels).faults = s.faults := rfl
@[simp] theorem nodesContend_freeIndex (levels : BitVec 56) : (s.nodesContend levels).freeIndex = s.freeIndex := rfl
@[simp] theorem nodesContend_pending (levels : BitVec 56) : (s.nodesContend levels).pending = s.pending := rfl
@[simp] theorem nodesContend_now (levels : BitVec 56) : (s.nodesContend levels).now = s.now := rfl
@[simp] theorem nodesContend_live (levels : BitVec 56) : (s.nodesContend levels).live = s.live := rfl
@[simp] theorem nodesContend_entry (levels : BitVec 56) (j : Slot) : (s.nodesContend levels).entry j = s.entry j := rfl
@[simp] theorem nodesContend_ring (levels : BitVec 56) (j : Slot) : (s.nodesContend levels).ring j = s.ring j := rfl
@[simp] theorem nodesContend_record (levels : BitVec 56) (kind : FaultKind) : (s.nodesContend levels).record kind = s.record kind := rfl
@[simp] theorem nodesContend_reaction (levels : BitVec 56) (kind : FaultKind) : (s.nodesContend levels).reaction kind = s.reaction kind := rfl
@[simp] theorem nodesContend_isDue (levels : BitVec 56) (j : Slot) : (s.nodesContend levels).isDue j = s.isDue j := rfl
@[simp] theorem nodesContend_isChanged (levels : BitVec 56) (j : Slot) : (s.nodesContend levels).isChanged j = s.isChanged j := rfl

/-! ## latchSurveyDone -/

@[simp] theorem latchSurveyDone_start : (s.latchSurveyDone).start = s.start := by
  unfold State.latchSurveyDone; split <;> rfl
@[simp] theorem latchSurveyDone_settings : (s.latchSurveyDone).settings = s.settings := by
  unfold State.latchSurveyDone; split <;> rfl
@[simp] theorem latchSurveyDone_dir : (s.latchSurveyDone).dir = s.dir := by
  unfold State.latchSurveyDone; split <;> rfl
@[simp] theorem latchSurveyDone_survey : (s.latchSurveyDone).survey = s.survey := by
  unfold State.latchSurveyDone; split <;> rfl
@[simp] theorem latchSurveyDone_line : (s.latchSurveyDone).line = s.line := by
  unfold State.latchSurveyDone; split <;> rfl
@[simp] theorem latchSurveyDone_sched : (s.latchSurveyDone).sched = s.sched := by
  unfold State.latchSurveyDone; split <;> rfl
@[simp] theorem latchSurveyDone_store : (s.latchSurveyDone).store = s.store := by
  unfold State.latchSurveyDone; split <;> rfl
@[simp] theorem latchSurveyDone_pool : (s.latchSurveyDone).pool = s.pool := by
  unfold State.latchSurveyDone; split <;> rfl
@[simp] theorem latchSurveyDone_faults : (s.latchSurveyDone).faults = s.faults := by
  unfold State.latchSurveyDone; split <;> rfl
@[simp] theorem latchSurveyDone_pending : (s.latchSurveyDone).pending = s.pending := by
  unfold State.latchSurveyDone; split <;> rfl
@[simp] theorem latchSurveyDone_now : (s.latchSurveyDone).now = s.now := by
  unfold State.latchSurveyDone; split <;> rfl
@[simp] theorem latchSurveyDone_live : (s.latchSurveyDone).live = s.live := by
  unfold State.latchSurveyDone; split <;> rfl
@[simp] theorem latchSurveyDone_nodes : (s.latchSurveyDone).nodes = s.nodes := by
  unfold State.latchSurveyDone; split <;> rfl
@[simp] theorem latchSurveyDone_entry (j : Slot) : (s.latchSurveyDone).entry j = s.entry j := by
  unfold State.latchSurveyDone; split <;> rfl
@[simp] theorem latchSurveyDone_ring (j : Slot) : (s.latchSurveyDone).ring j = s.ring j := by
  unfold State.latchSurveyDone; split <;> rfl
@[simp] theorem latchSurveyDone_record (kind : FaultKind) : (s.latchSurveyDone).record kind = s.record kind := by
  unfold State.latchSurveyDone; split <;> rfl
@[simp] theorem latchSurveyDone_reaction (kind : FaultKind) : (s.latchSurveyDone).reaction kind = s.reaction kind := by
  unfold State.latchSurveyDone; split <;> rfl
@[simp] theorem latchSurveyDone_isDue (j : Slot) : (s.latchSurveyDone).isDue j = s.isDue j := by
  unfold State.latchSurveyDone; split <;> rfl
@[simp] theorem latchSurveyDone_isChanged (j : Slot) : (s.latchSurveyDone).isChanged j = s.isChanged j := by
  unfold State.latchSurveyDone; split <;> rfl

/-! ## The component that an update writes -/

@[simp] theorem setEntry_bindings (i : Slot) (e : Entry) : (s.setEntry i e).dir.bindings = s.dir.bindings := rfl
@[simp] theorem setEntry_changes (i : Slot) (e : Entry) : (s.setEntry i e).dir.changes = s.dir.changes := rfl
@[simp] theorem addChange_bindings (i : Slot) : (s.addChange i).dir.bindings = s.dir.bindings := rfl
@[simp] theorem addChange_entries (i : Slot) : (s.addChange i).dir.entries = s.dir.entries := rfl
@[simp] theorem setRing_memory (i : Slot) (r : Option Ring) : (s.setRing i r).store.memory = s.store.memory := rfl
@[simp] theorem setMemory_memory (m : Memory) : (s.setMemory m).store.memory = m := rfl
@[simp] theorem setMemory_rings (m : Memory) : (s.setMemory m).store.rings = s.store.rings := rfl
@[simp] theorem setDue_cycle (i : Slot) (b : Bool) : (s.setDue i b).sched.cycle = s.sched.cycle := rfl
@[simp] theorem setDue_missLimit (i : Slot) (b : Bool) : (s.setDue i b).sched.missLimit = s.sched.missLimit := rfl
@[simp] theorem setDue_period (i : Slot) (b : Bool) : (s.setDue i b).sched.period = s.sched.period := rfl
@[simp] theorem setDue_lateCycles (i : Slot) (b : Bool) : (s.setDue i b).sched.lateCycles = s.sched.lateCycles := rfl
@[simp] theorem setRecord_holdAsked (k : FaultKind) (r : FaultRecord) :
    (s.setRecord k r).faults.holdAsked = s.faults.holdAsked := rfl
@[simp] theorem setRecord_ackWindow (k : FaultKind) (r : FaultRecord) :
    (s.setRecord k r).faults.ackWindow = s.faults.ackWindow := rfl
@[simp] theorem askHold_holdAsked : s.askHold.faults.holdAsked = true := rfl
@[simp] theorem askHold_ackWindow : s.askHold.faults.ackWindow = s.faults.ackWindow := rfl
@[simp] theorem setReaction_holdAsked (k : FaultKind) (r : Reaction) :
    (s.setReaction k r).faults.holdAsked = s.faults.holdAsked := rfl
@[simp] theorem setReaction_ackWindow (k : FaultKind) (r : Reaction) :
    (s.setReaction k r).faults.ackWindow = s.faults.ackWindow := rfl
@[simp] theorem setTxn_txn (t : Option Transaction) : (s.setTxn t).line.txn = t := rfl
@[simp] theorem setTxn_state (t : Option Transaction) : (s.setTxn t).line.state = s.line.state := rfl
@[simp] theorem setTxn_owed (t : Option Transaction) : (s.setTxn t).line.owed = s.line.owed := rfl
@[simp] theorem setTxn_stuck (t : Option Transaction) : (s.setTxn t).line.stuck = s.line.stuck := rfl
@[simp] theorem setTxn_silence (t : Option Transaction) : (s.setTxn t).line.silence = s.line.silence := rfl
@[simp] theorem setTxn_haltTimer (t : Option Transaction) : (s.setTxn t).line.haltTimer = s.line.haltTimer := rfl
@[simp] theorem setTxn_rate (t : Option Transaction) : (s.setTxn t).line.rate = s.line.rate := rfl
@[simp] theorem setPool_pool (p : Pool) : (s.setPool p).pool = p := rfl
@[simp] theorem setSurvey_survey (u : SurveyUnit) : (s.setSurvey u).survey = u := rfl
@[simp] theorem setSurveyRecord_surveyRecord (r : SurveyRecord) : (s.setSurveyRecord r).survey.record = r := rfl
@[simp] theorem setSurveyRecord_round (r : SurveyRecord) : (s.setSurveyRecord r).survey.round = s.survey.round := rfl
@[simp] theorem setSurveyRecord_failures (r : SurveyRecord) : (s.setSurveyRecord r).survey.failures = s.survey.failures := rfl
@[simp] theorem setRound_surveyRecord (r : Option Round) : (s.setRound r).survey.record = s.survey.record := rfl
@[simp] theorem setRound_round (r : Option Round) : (s.setRound r).survey.round = r := rfl
@[simp] theorem setRound_failures (r : Option Round) : (s.setRound r).survey.failures = s.survey.failures := rfl
@[simp] theorem setLine_line (l : LineEngine) : (s.setLine l).line = l := rfl
@[simp] theorem setStart_start (x : StartState) : (s.setStart x).start = x := rfl
@[simp] theorem setLink_link (l : LinkState) : (s.setLink l).link = l := rfl
@[simp] theorem setSettings_settings (x : SettingsState) : (s.setSettings x).settings = x := rfl
@[simp] theorem setRx_rx (r : Receiver) : (s.setRx r).link.rx = r := rfl
@[simp] theorem setRx_reply (r : Receiver) : (s.setRx r).link.reply = s.link.reply := rfl
@[simp] theorem replied_rx (c : Byte) (st : Status) (rs : List Byte) : (s.replied c st rs).link.rx = s.link.rx := rfl
@[simp] theorem latchFault_latch : s.latchFault.link.faultLatch = true := rfl
@[simp] theorem latchFault_reply : s.latchFault.link.reply = s.link.reply := rfl
@[simp] theorem latchFault_rx : s.latchFault.link.rx = s.link.rx := rfl
@[simp] theorem overrunning_reply : s.overrunning.link.reply = s.link.reply := rfl
@[simp] theorem overrunning_overrun : s.overrunning.link.overrun = true := rfl

/-! ## The cell that an update of a table writes -/

@[simp] theorem entry_setEntry_self (i : Slot) (e : Entry) : (s.setEntry i e).entry i = e := cell_putCell_self _ _ _
theorem entry_setEntry_ne {i j : Slot} (h : j ≠ i) (e : Entry) : (s.setEntry i e).entry j = s.entry j :=
  cell_putCell_ne _ h _
@[simp] theorem ring_setRing_self (i : Slot) (r : Option Ring) : (s.setRing i r).ring i = r := cell_putCell_self _ _ _
theorem ring_setRing_ne {i j : Slot} (h : j ≠ i) (r : Option Ring) : (s.setRing i r).ring j = s.ring j :=
  cell_putCell_ne _ h _
@[simp] theorem isDue_setDue_self (i : Slot) (b : Bool) : (s.setDue i b).isDue i = b := cell_putCell_self _ _ _
theorem isDue_setDue_ne {i j : Slot} (h : j ≠ i) (b : Bool) : (s.setDue i b).isDue j = s.isDue j :=
  cell_putCell_ne _ h _
@[simp] theorem isChanged_addChange_self (i : Slot) : (s.addChange i).isChanged i = true := cell_putCell_self _ _ _
theorem isChanged_addChange_ne {i j : Slot} (h : j ≠ i) : (s.addChange i).isChanged j = s.isChanged j :=
  cell_putCell_ne _ h _
theorem index_injective {k l : FaultKind} (h : k.index = l.index) : k = l := by cases k <;> cases l <;> first | rfl | cases h
@[simp] theorem record_setRecord_self (k : FaultKind) (r : FaultRecord) : (s.setRecord k r).record k = r :=
  cell_putCell_self _ _ _
theorem record_setRecord_ne {k l : FaultKind} (h : l ≠ k) (r : FaultRecord) : (s.setRecord k r).record l = s.record l :=
  cell_putCell_ne _ (fun e => h (index_injective e)) _
@[simp] theorem reaction_setReaction_self (k : FaultKind) (r : Reaction) : (s.setReaction k r).reaction k = r :=
  cell_putCell_self _ _ _
theorem reaction_setReaction_ne {k l : FaultKind} (h : l ≠ k) (r : Reaction) :
    (s.setReaction k r).reaction l = s.reaction l :=
  cell_putCell_ne _ (fun e => h (index_injective e)) _

/-! ## The queue -/

/-- What a command finds on the queue it leaves there. -/
theorem pending_with (q : List Instr) : ({ s with pending := q } : State).pending = q := rfl

/-! ## passTime -/

@[simp] theorem passTime_settings (n : Nat) : (s.passTime n).settings = s.settings := rfl
@[simp] theorem passTime_link (n : Nat) : (s.passTime n).link = s.link.idles n := rfl
@[simp] theorem idles_reply (l : LinkState) (n : Nat) : (l.idles n).reply = l.reply := rfl
@[simp] theorem idles_rate (l : LinkState) (n : Nat) : (l.idles n).rate = l.rate := rfl
@[simp] theorem idles_faultLatch (l : LinkState) (n : Nat) : (l.idles n).faultLatch = l.faultLatch := rfl
@[simp] theorem idles_surveyDone (l : LinkState) (n : Nat) : (l.idles n).surveyDone = l.surveyDone := rfl
@[simp] theorem idles_clearMayFollow (l : LinkState) (n : Nat) : (l.idles n).clearMayFollow = l.clearMayFollow := rfl
@[simp] theorem idles_enables (l : LinkState) (n : Nat) : (l.idles n).enables = l.enables := rfl
@[simp] theorem idles_restartDue (l : LinkState) (n : Nat) : (l.idles n).restartDue = l.restartDue := rfl

/-- R157: a receiver that waits for nothing is not changed by idle time. -/
theorem idles_ready {l : LinkState} (h : l.rx.highDue = 0) (n : Nat) : l.idles n = l := by
  rcases l with ⟨_, ⟨_, _, _, _, _, _⟩, _, _, _, _, _, _, _, _, _, _, _⟩
  simp at h
  simp [LinkState.idles, h]
@[simp] theorem passTime_dir (n : Nat) : (s.passTime n).dir = s.dir := rfl
@[simp] theorem passTime_survey (n : Nat) : (s.passTime n).survey = s.survey := rfl
@[simp] theorem passTime_line (n : Nat) : (s.passTime n).line = s.line := rfl
@[simp] theorem passTime_store (n : Nat) : (s.passTime n).store = s.store := rfl
@[simp] theorem passTime_pool (n : Nat) : (s.passTime n).pool = s.pool := rfl
@[simp] theorem passTime_faults (n : Nat) : (s.passTime n).faults = s.faults := rfl
@[simp] theorem passTime_nodes (n : Nat) : (s.passTime n).nodes = s.nodes := rfl
@[simp] theorem passTime_freeIndex (n : Nat) : (s.passTime n).freeIndex = s.freeIndex := rfl
@[simp] theorem passTime_pending (n : Nat) : (s.passTime n).pending = s.pending := rfl
@[simp] theorem passTime_live (n : Nat) : (s.passTime n).live = s.live := rfl
@[simp] theorem passTime_entry (n : Nat) (j : Slot) : (s.passTime n).entry j = s.entry j := rfl
@[simp] theorem passTime_ring (n : Nat) (j : Slot) : (s.passTime n).ring j = s.ring j := rfl
@[simp] theorem passTime_isDue (n : Nat) (j : Slot) : (s.passTime n).isDue j = s.isDue j := rfl
@[simp] theorem passTime_record (n : Nat) (kind : FaultKind) : (s.passTime n).record kind = s.record kind := rfl
@[simp] theorem passTime_reaction (n : Nat) (kind : FaultKind) : (s.passTime n).reaction kind = s.reaction kind := rfl
@[simp] theorem passTime_phase (n : Nat) : (s.passTime n).start.phase = s.start.phase := rfl
@[simp] theorem passTime_now (n : Nat) : (s.passTime n).now = s.now + BitVec.ofNat 32 n := rfl

/-- No time passes in 0 milliseconds. -/
theorem passTime_zero : s.passTime 0 = s := by
  rcases s with ⟨⟨_, _, _, _⟩, _, _, _, _, _, ⟨_, _, c, _, _⟩, _, _, _, _, _, _⟩
  cases c <;> simp [State.passTime, LinkState.idles]

end Sys2Proof.Machine
end

