-- ==== Sys2Proof/Laws/Faults.lean ====
section
/-! SUPPORT. What an occurrence of a fault kind can do (R141 to R146). -/

namespace Sys2Proof.Machine

variable (k : FaultKind) (slot detail : Byte) (injected : Bool) (s : State)

/-- The record that an occurrence leaves for its kind. -/
def recordAfter (k : FaultKind) (slot detail : Byte) (injected : Bool) (s : State) : FaultRecord :=
  let taken := recordTaking (s.record k) { slot, timestamp := s.now, detail, injected }
  if s.reaction k = .alert then recordAlerted taken (s.now + s.ackSpan) else taken

@[simp] theorem occur_start : (occur k slot detail injected s).start = s.start := by unfold occur; split <;> rfl
@[simp] theorem occur_settings : (occur k slot detail injected s).settings = s.settings := by unfold occur; split <;> rfl
@[simp] theorem occur_dir : (occur k slot detail injected s).dir = s.dir := by unfold occur; split <;> rfl
@[simp] theorem occur_survey : (occur k slot detail injected s).survey = s.survey := by unfold occur; split <;> rfl
@[simp] theorem occur_line : (occur k slot detail injected s).line = s.line := by unfold occur; split <;> rfl
@[simp] theorem occur_sched : (occur k slot detail injected s).sched = s.sched := by unfold occur; split <;> rfl
@[simp] theorem occur_store : (occur k slot detail injected s).store = s.store := by unfold occur; split <;> rfl
@[simp] theorem occur_pool : (occur k slot detail injected s).pool = s.pool := by unfold occur; split <;> rfl
@[simp] theorem occur_nodes : (occur k slot detail injected s).nodes = s.nodes := by unfold occur; split <;> rfl
@[simp] theorem occur_freeIndex : (occur k slot detail injected s).freeIndex = s.freeIndex := by unfold occur; split <;> rfl
@[simp] theorem occur_pending : (occur k slot detail injected s).pending = s.pending := by unfold occur; split <;> rfl

@[simp] theorem occur_entry (i : Slot) : (occur k slot detail injected s).entry i = s.entry i := by
  simp only [State.entry, occur_dir]
@[simp] theorem occur_ring (i : Slot) : (occur k slot detail injected s).ring i = s.ring i := by
  simp only [State.ring, occur_store]
@[simp] theorem occur_isDue (i : Slot) : (occur k slot detail injected s).isDue i = s.isDue i := by
  simp only [State.isDue, occur_sched]
@[simp] theorem occur_now : (occur k slot detail injected s).now = s.now := by simp only [State.now, occur_start]

/-- The link unit keeps everything but the FAULT latch. -/
theorem occur_link : (occur k slot detail injected s).link =
    { s.link with faultLatch := s.link.faultLatch || decide (s.reaction k ≠ .ignore) } := by
  unfold occur
  split <;> rename_i h <;> simp [h, State.setRecord, State.latchFault, State.askHold]

/-- R142, R145: the record of the kind. -/
theorem occur_record_self : (occur k slot detail injected s).record k = recordAfter k slot detail injected s := by
  unfold occur recordAfter
  split <;> rename_i h <;> simp [h]

/-- The record of every other kind stands. -/
theorem occur_record_ne {l : FaultKind} (h : l ≠ k) : (occur k slot detail injected s).record l = s.record l := by
  unfold occur
  split <;> simp [record_setRecord_ne _ h]

@[simp] theorem occur_reaction (l : FaultKind) : (occur k slot detail injected s).reaction l = s.reaction l := by
  unfold occur; split <;> rfl

@[simp] theorem occur_ackWindow : (occur k slot detail injected s).faults.ackWindow = s.faults.ackWindow := by
  unfold occur; split <;> rfl

/-- R146: a hold is asked for exactly under HOLD, or was asked for already. -/
theorem occur_holdAsked : (occur k slot detail injected s).faults.holdAsked =
    (s.faults.holdAsked || decide (s.reaction k = .hold)) := by
  unfold occur
  split <;> rename_i h <;> simp [h, State.setRecord, State.latchFault, State.askHold]

/-- A detector's occurrence is one that is not injected. -/
theorem raise_eq : raise k slot detail s = occur k slot detail false s := rfl

/-- R142: a lawful record that takes an occurrence is lawful. -/
theorem recordTaking_lawful {r : FaultRecord} (h : recordLawful r) (o : Occurrence) : recordLawful (recordTaking r o) := by
  obtain ⟨h1, h2, h3, h4⟩ := h
  have hc : satAdd r.count 1 ≠ 0 := by
    intro e
    have := congrArg BitVec.toNat e
    simp [satAdd] at this
    omega
  refine ⟨?_, ?_, ?_, ?_⟩ <;> simp_all [recordTaking]

theorem recordAlerted_lawful {r : FaultRecord} (h : recordLawful r) (hc : r.count ≠ 0) (d : Timestamp) :
    recordLawful (recordAlerted r d) := by
  obtain ⟨h1, h2, h3, h4⟩ := h
  unfold recordAlerted
  split
  · exact ⟨h1, h2, fun e => absurd e hc, by simp⟩
  · exact ⟨h1, h2, h3, h4⟩
  · exact ⟨h1, h2, h3, h4⟩

/-- R142: an occurrence keeps the law of the fault table. -/
theorem occur_lawful (h : faultTableLawful s) : faultTableLawful (occur k slot detail injected s) := by
  intro l
  by_cases e : l = k
  · subst e
    rw [occur_record_self]
    unfold recordAfter
    have ht := recordTaking_lawful (h l) { slot, timestamp := s.now, detail, injected }
    dsimp only
    split
    · refine recordAlerted_lawful ht ?_ _
      intro e
      have := congrArg BitVec.toNat e
      simp [recordTaking, satAdd] at this
      omega
    · exact ht
  · rw [occur_record_ne _ _ _ _ _ e]
    exact h l

end Sys2Proof.Machine
end

