-- ==== Sys2Proof/Laws/Requests.lean ====
section
/-! SUPPORT. What a request and its reply can do. -/

namespace Sys2Proof.Machine

variable (code : Byte) (early : Bool) (owner : State → State × Status × List Byte) (s : State)

theorem live_of_running {s : State} (h : s.start.phase = .running) : s.live = true := by simp [State.live, h]

theorem live_iff {s : State} : s.live = true ↔ s.start.phase = .running := by simp [State.live]

/-- R164: with an empty cause set the owner takes the request. -/
theorem request_ready {s : State} (h : s.ready) :
    request code early owner s = (owner s).1.replied code (owner s).2.1 (owner s).2.2 := by
  obtain ⟨hp, hr, hc⟩ := h
  simp [request, live_of_running hp, hr, hc]

/-- R164: the requests that a start does not hold back go to their owner whatever the cause set. -/
theorem request_early {s : State} (h : s.listens) :
    request code true owner s = (owner s).1.replied code (owner s).2.1 (owner s).2.2 := by
  obtain ⟨hp, hr⟩ := h
  simp [request, live_of_running hp, hr]

/-- R165: while the cause set is not empty the others are answered STARTING. -/
theorem request_starting {s : State} (h : s.listens) (hc : s.start.causes ≠ 0) :
    request code false owner s = s.replied code .starting [] := by
  obtain ⟨hp, hr⟩ := h
  simp only [request, live_of_running hp, hr, if_true, Option.isSome_none, Bool.false_eq_true, if_false, true_and,
    if_pos hc]

/-- R162: while a reply is owed the request has no effect but the overrun flag. -/
theorem request_owed {s : State} (h : s.start.phase = .running) (hr : s.link.reply.isSome = true) :
    request code early owner s = s.overrunning := by
  simp [request, live_of_running h, hr]

/-- R169: before the start has ended a request has no effect. -/
theorem request_stopped {s : State} (h : s.start.phase ≠ .running) : request code early owner s = s := by
  simp [request, State.live, h]

/-- Everything a request can do: nothing, the overrun flag, the reply STARTING, or its owner's effect and reply. -/
theorem request_cases :
    request code early owner s = s ∨ request code early owner s = s.overrunning ∨
      request code early owner s = s.replied code .starting [] ∨
      request code early owner s = (owner s).1.replied code (owner s).2.1 (owner s).2.2 := by
  unfold request
  split
  · split
    · exact Or.inr (Or.inl rfl)
    · split
      · exact Or.inr (Or.inr (Or.inl rfl))
      · exact Or.inr (Or.inr (Or.inr rfl))
  · exact Or.inl rfl

/-- A property of states that a reply and the overrun flag keep, and that the owner keeps, is kept by the request. -/
theorem request_keeps {P : State → Prop} (hp : P s) (hreply : ∀ t c st rs, P t → P (t.replied c st rs))
    (hover : P s.overrunning) (howner : P (owner s).1) : P (request code early owner s) := by
  rcases request_cases code early owner s with h | h | h | h <;> rw [h]
  · exact hp
  · exact hover
  · exact hreply _ _ _ _ hp
  · exact hreply _ _ _ _ howner

/-- A request whose LEN fits is the request. -/
@[simp] theorem requestIfFits_true : requestIfFits true code owner s = request code false owner s := rfl

end Sys2Proof.Machine
end

