-- ==== Sys2Proof/Laws/Frames.lean ====
section
/-! SUPPORT. What the receiver makes of whole and of partial frames. -/

namespace Sys2Proof.Machine

/-- The receiver after SYNC and LEN. -/
def rxBody (len : Nat) (overrun : Bool) (buffer : List Byte) : Receiver where
  phase := .body
  len := len
  buffer := buffer
  crcFirst := none
  overrun := overrun
  highDue := 0

/-- The receiver after the last body byte. -/
def rxCheck (len : Nat) (overrun : Bool) (buffer : List Byte) (crcFirst : Option Byte) : Receiver where
  phase := .check
  len := len
  buffer := buffer
  crcFirst := crcFirst
  overrun := overrun
  highDue := 0

theorem setRx_setRx (s : State) (a b : Receiver) : (s.setRx a).setRx b = s.setRx b := rfl

theorem setRx_same {s : State} {r : Receiver} (h : s.link.rx = r) : s.setRx r = s := by subst h; rfl

/-- Characters met in HUNT come after a SYNC. -/
theorem arrive_hunts {s : State} {chars : List Byte} (h : s.hunts) :
    arrive chars s = (0xD5 :: chars).foldl takeByte s := by
  have hr : s.link.rx = Receiver.idle := h
  simp [arrive, hr, Receiver.idle]

/-- R157: while the receiver waits for RXD to be high it takes no character. -/
theorem arrive_waits {s : State} {chars : List Byte} (h : 0 < s.link.rx.highDue) :
    arrive chars s = waitOut (linkLevels (0xD5 :: chars)) s := by
  simp [arrive, h]

/-- R157: a character that passes while the receiver waits does not end the wait. -/
theorem waitOver_char (b : Byte) : ∀ d, 1 ≤ d → d ≤ 10 →
    1 ≤ waitOver d (linkCharLevels b) ∧ waitOver d (linkCharLevels b) ≤ 10 := by
  intro d h1 h2
  have low : waitOver d (linkCharLevels b) = waitOver 10 ((linkCharLevels b).drop 1) := by
    have h0 : d ≠ 0 := by omega
    simp [waitOver, linkCharLevels, charBits, pinLevel, waitBit, h0]
  rw [low]
  clear low h1 h2
  revert b
  decide +kernel

/-- R157: nor do characters back to back. -/
theorem waitOver_chars : ∀ (chars : List Byte) (d : Nat), 1 ≤ d → d ≤ 10 →
    1 ≤ waitOver d (linkLevels chars) ∧ waitOver d (linkLevels chars) ≤ 10
  | [], d, h1, h2 => ⟨h1, h2⟩
  | b :: rest, d, h1, h2 => by
    have step := waitOver_char b d h1 h2
    have split : waitOver d (linkLevels (b :: rest)) = waitOver (waitOver d (linkCharLevels b)) (linkLevels rest) := by
      simp [waitOver, linkLevels, List.foldl_append]
    rw [split]
    exact waitOver_chars rest _ step.1 step.2

/-- R157: with a high level between them, the low levels on either side count by themselves. -/
theorem longLows_append_high : ∀ (front rest : List PinLevel) (low : Nat),
    longLows low (front ++ .high :: rest) = longLows low front + longLows 0 rest
  | [], _, _ => by simp [longLows]
  | .high :: front, rest, low => longLows_append_high front rest 0
  | .low :: front, rest, low => by
    have step := longLows_append_high front rest (low + 1)
    simp only [List.cons_append, longLows, step, Nat.add_assoc]

/-- R157: no character back to back with others holds a low level longer than one character. -/
theorem longLows_chars : ∀ chars : List Byte, longLows 0 (linkLevels chars) = 0
  | [] => rfl
  | b :: rest => by
    have split : linkLevels (b :: rest) = (linkCharLevels b).dropLast ++ .high :: linkLevels rest := by
      simp [linkLevels, linkCharLevels, charBits, pinLevel, List.dropLast]
    have one : longLows 0 (linkCharLevels b).dropLast = 0 := by
      clear split
      revert b
      decide +kernel
    rw [split, longLows_append_high, one, longLows_chars rest]

theorem takeWhile_all {p : PinLevel → Bool} :
    ∀ {levels : List PinLevel}, levels.all p = true → levels.takeWhile p = levels
  | [], _ => rfl
  | l :: rest, h => by
    simp only [List.all_cons, Bool.and_eq_true] at h
    rw [List.takeWhile_cons, if_pos h.1, takeWhile_all h.2]

/-- The bit times for which RXD has been high at the end of these levels. -/
theorem highTail_cons (l : PinLevel) (rest : List PinLevel) :
    ((l :: rest).reverse.takeWhile fun l => decide (l = .high)).length =
      if (rest.all fun l => decide (l = .high)) = true then rest.length + (if l = .high then 1 else 0)
      else (rest.reverse.takeWhile fun l => decide (l = .high)).length := by
  rw [List.reverse_cons, List.takeWhile_append]
  by_cases h : (rest.all fun l => decide (l = .high)) = true
  · have e : rest.reverse.takeWhile (fun l => decide (l = .high)) = rest.reverse :=
      takeWhile_all (by rw [List.all_reverse]; exact h)
    rw [e, if_pos rfl, if_pos h]
    cases l <;> simp
  · have e : (rest.reverse.takeWhile fun l => decide (l = .high)).length ≠ rest.reverse.length := by
      intro c
      apply h
      rw [← List.all_reverse, ← (List.takeWhile_prefix _).eq_of_length c]
      exact List.all_takeWhile
    rw [if_neg e, if_neg h]

/-- R157: what is left of the wait after levels that hold no low one once it has ended. -/
theorem waitOver_eq : ∀ (levels : List PinLevel) (d : Nat),
    ((afterHigh d levels).all fun l => decide (l = .high)) = true →
      waitOver d levels =
        if (levels.all fun l => decide (l = .high)) = true then d - levels.length
        else 10 - (levels.reverse.takeWhile fun l => decide (l = .high)).length
  | [], d, _ => by simp [waitOver]
  | .high :: rest, 0, h => by
    have hr : (rest.all fun l => decide (l = .high)) = true := by simpa [afterHigh] using h
    have := waitOver_eq rest 0 (by cases rest <;> simpa only [afterHigh] using hr)
    rw [if_pos hr] at this
    simpa [waitOver, waitBit, hr] using this
  | .low :: rest, 0, h => by simp [afterHigh] at h
  | .high :: rest, n + 1, h => by
    have ih := waitOver_eq rest n (by simpa [afterHigh] using h)
    rw [highTail_cons]
    change waitOver n rest = _
    rw [ih]
    by_cases hr : (rest.all fun l => decide (l = .high)) = true
    · simp [hr]
    · simp [hr]
  | .low :: rest, n + 1, h => by
    have ih := waitOver_eq rest 10 (by simpa [afterHigh] using h)
    rw [highTail_cons]
    change waitOver 10 rest = _
    rw [ih]
    by_cases hr : (rest.all fun l => decide (l = .high)) = true
    · simp [hr]
    · simp [hr]

/-- R157, R160: a gap met in HUNT changes nothing but the wait, which it ends. -/
theorem gapPasses_hunt {s : State} (h : s.link.rx.phase = .hunt) :
    gapPasses s = s.setRx { s.link.rx with highDue := 0 } := by simp [gapPasses, h]

/-- Body bytes short of LEN are kept. -/
theorem feed_body_short (s : State) (len : Nat) (ov : Bool) : ∀ (bytes buffer : List Byte),
    buffer.length + bytes.length < len →
    bytes.foldl takeByte (s.setRx (rxBody len ov buffer)) = s.setRx (rxBody len ov (buffer ++ bytes))
  | [], buffer, _ => by simp
  | b :: rest, buffer, h => by
    have hlt : (buffer ++ [b]).length < len := by simp at h ⊢; omega
    have step1 : takeByte (s.setRx (rxBody len ov buffer)) b = s.setRx (rxBody len ov (buffer ++ [b])) := by
      change s.setRx
        { phase := if (buffer ++ [b]).length < len then .body else .check
          len := len, buffer := buffer ++ [b], crcFirst := none, overrun := ov, highDue := 0 } = _
      rw [if_pos hlt]
      rfl
    rw [List.foldl_cons, step1, feed_body_short s len ov rest (buffer ++ [b]) (by simp at h ⊢; omega)]
    simp

/-- The LEN-th body byte ends the body. -/
theorem feed_body_whole (s : State) (len : Nat) (ov : Bool) (bytes : List Byte) (hl : bytes.length = len) (hp : 1 ≤ len) :
    bytes.foldl takeByte (s.setRx (rxBody len ov [])) = s.setRx (rxCheck len ov bytes none) := by
  obtain ⟨front, last, rfl⟩ : ∃ front last, bytes = front ++ [last] := by
    refine ⟨bytes.dropLast, bytes.getLast (by intro e; subst e; simp at hl; omega), ?_⟩
    rw [List.dropLast_concat_getLast]
  rw [List.foldl_append, feed_body_short s len ov front [] (by simp at hl ⊢; omega)]
  have hnlt : ¬ (front ++ [last]).length < len := by omega
  change s.setRx
    { phase := if (front ++ [last]).length < len then .body else .check
      len := len, buffer := front ++ [last], crcFirst := none, overrun := ov, highDue := 0 } = _
  rw [if_neg hnlt]
  rfl

/-- SYNC and a LEN from 1 to 240, met in HUNT. -/
theorem feed_head {s : State} (len : Byte) (hlo : 1 ≤ len.toNat) (hhi : len.toNat ≤ 240) (hs : s.link.rx.phase = .hunt) :
    [(0xD5 : Byte), len].foldl takeByte s =
      (if s.link.reply.isSome then s.overrunning else s).setRx (rxBody len.toNat s.link.reply.isSome []) := by
  have h1 : takeByte s 0xD5 =
      (if s.link.reply.isSome then s.overrunning else s).setRx
        { Receiver.idle with phase := .length, overrun := s.link.reply.isSome } := by
    simp only [takeByte, hs, takeHunt, if_true]
    split <;> rfl
  simp only [List.foldl_cons, List.foldl_nil, h1]
  simp only [takeByte, setRx_rx, takeLength, hlo, hhi, and_self, if_true]
  rfl

/-- A whole frame met in HUNT while no reply is owed is judged, with the receiver in HUNT again. -/
theorem arrive_whole {s : State} (body : List Byte) (high low : Byte) (hlo : 1 ≤ body.length) (hhi : body.length ≤ 240)
    (hs : s.hunts) (hr : s.link.reply = none) :
    arrive (BitVec.ofNat 8 body.length :: body ++ [high, low]) s = judgeFrame body high low s := by
  have hph : s.link.rx.phase = .hunt := by rw [show s.link.rx = Receiver.idle from hs]; rfl
  have hn : (BitVec.ofNat 8 body.length : Byte).toNat = body.length := by simp; omega
  have hsplit : (0xD5 : Byte) :: (BitVec.ofNat 8 body.length :: body ++ [high, low]) =
      [(0xD5 : Byte), BitVec.ofNat 8 body.length] ++ (body ++ [high, low]) := rfl
  rw [arrive_hunts hs, hsplit, List.foldl_append, feed_head _ (by omega) (by omega) hph, hn, hr]
  simp only [Option.isSome_none, Bool.false_eq_true, if_false]
  rw [List.foldl_append, feed_body_whole _ _ _ _ rfl hlo]
  simp only [List.foldl_cons, List.foldl_nil, takeByte, setRx_rx, rxCheck, takeCheck, setRx_setRx, Bool.false_eq_true,
    if_false]
  rw [setRx_same hs]

/-- A whole frame met in HUNT while a reply is owed sets the overrun flag and is followed to its end. -/
theorem arrive_whole_owed {s : State} (chars : List Byte) (hw : wholeFrame chars = true) (hs : s.hunts)
    (hr : s.link.reply.isSome = true) : arrive chars s = s.overrunning := by
  have hph : s.link.rx.phase = .hunt := by rw [show s.link.rx = Receiver.idle from hs]; rfl
  cases chars with
  | nil => simp [wholeFrame] at hw
  | cons len rest =>
    simp only [wholeFrame, Bool.and_eq_true, decide_eq_true_eq] at hw
    obtain ⟨⟨hlo, hhi⟩, hlen⟩ := hw
    obtain ⟨body, high, low, rfl, hb⟩ : ∃ body high low, rest = body ++ [high, low] ∧ body.length = len.toNat := by
      obtain ⟨high, low, hd⟩ : ∃ high low, rest.drop len.toNat = [high, low] := by
        have hl : (rest.drop len.toNat).length = 2 := by simp; omega
        match rest.drop len.toNat, hl with
        | [high, low], _ => exact ⟨high, low, rfl⟩
      exact ⟨rest.take len.toNat, high, low, by rw [← hd, List.take_append_drop], by simp; omega⟩
    have hsplit : (0xD5 : Byte) :: (len :: (body ++ [high, low])) = [(0xD5 : Byte), len] ++ (body ++ [high, low]) := rfl
    rw [arrive_hunts hs, hsplit, List.foldl_append, feed_head _ hlo hhi hph, hr]
    simp only [if_true]
    rw [List.foldl_append, feed_body_whole _ _ _ _ hb hlo]
    simp only [List.foldl_cons, List.foldl_nil, takeByte, setRx_rx, rxCheck, takeCheck, setRx_setRx, if_true]
    exact setRx_same (s := s.overrunning) hs

/-- The beginning of a frame, met in HUNT, leaves the receiver inside it and changes nothing else but the overrun flag
where a reply is owed. -/
theorem arrive_partial {s : State} (chars : List Byte) (hw : partialFrame chars = true) (hs : s.hunts) :
    ∃ r : Receiver, r.phase ≠ .hunt ∧
      arrive chars s = (if s.link.reply.isSome then s.overrunning else s).setRx r := by
  have hph : s.link.rx.phase = .hunt := by rw [show s.link.rx = Receiver.idle from hs]; rfl
  cases chars with
  | nil =>
    refine ⟨{ Receiver.idle with phase := .length, overrun := s.link.reply.isSome }, by simp, ?_⟩
    rw [arrive_hunts hs]
    simp only [hph, if_true, List.foldl_cons, List.foldl_nil, takeByte, takeHunt]
    split <;> rfl
  | cons len rest =>
    simp only [partialFrame, Bool.and_eq_true, decide_eq_true_eq] at hw
    obtain ⟨⟨hlo, hhi⟩, hlen⟩ := hw
    have hsplit : (0xD5 : Byte) :: len :: rest = [(0xD5 : Byte), len] ++ rest := rfl
    rw [arrive_hunts hs, hsplit, List.foldl_append, feed_head _ hlo hhi hph]
    by_cases hc : rest.length < len.toNat
    · refine ⟨_, ?_, feed_body_short _ _ _ rest [] (by simpa using hc)⟩
      simp [rxBody]
    · by_cases he : rest.length = len.toNat
      · refine ⟨_, ?_, feed_body_whole _ _ _ rest he hlo⟩
        simp [rxCheck]
      · obtain ⟨body, high, rfl⟩ : ∃ body high, rest = body ++ [high] := by
          refine ⟨rest.dropLast, rest.getLast (by intro e; subst e; simp at hc; omega), ?_⟩
          rw [List.dropLast_concat_getLast]
        have hb : body.length = len.toNat := by simp at hlen hc he; omega
        refine ⟨rxCheck len.toNat s.link.reply.isSome body (some high), by simp [rxCheck], ?_⟩
        rw [List.foldl_append, feed_body_whole _ _ _ body hb hlo]
        simp only [List.foldl_cons, List.foldl_nil, takeByte, setRx_rx, rxCheck, takeCheck, setRx_setRx]

end Sys2Proof.Machine
end

