-- ==== Sys2Proof/Laws/Line.lean ====
section
/-! SUPPORT. What the shared operations of the line engine can do: beginning a frame, taking a hold, settling an event. -/

namespace Sys2Proof.Machine

variable (s : State)

/-! ## Frames, owed sends, cycle starts -/

@[simp] theorem beginFrame_start (f : LineFrame) (u : LineUser) : (beginFrame f u s).start = s.start := rfl
@[simp] theorem beginFrame_settings (f : LineFrame) (u : LineUser) : (beginFrame f u s).settings = s.settings := rfl
@[simp] theorem beginFrame_link (f : LineFrame) (u : LineUser) : (beginFrame f u s).link = s.link := rfl
@[simp] theorem beginFrame_dir (f : LineFrame) (u : LineUser) : (beginFrame f u s).dir = s.dir := rfl
@[simp] theorem beginFrame_survey (f : LineFrame) (u : LineUser) : (beginFrame f u s).survey = s.survey := rfl
@[simp] theorem beginFrame_sched (f : LineFrame) (u : LineUser) : (beginFrame f u s).sched = s.sched := rfl
@[simp] theorem beginFrame_store (f : LineFrame) (u : LineUser) : (beginFrame f u s).store = s.store := rfl
@[simp] theorem beginFrame_pool (f : LineFrame) (u : LineUser) : (beginFrame f u s).pool = s.pool := rfl
@[simp] theorem beginFrame_faults (f : LineFrame) (u : LineUser) : (beginFrame f u s).faults = s.faults := rfl
@[simp] theorem beginFrame_nodes (f : LineFrame) (u : LineUser) : (beginFrame f u s).nodes = s.nodes := rfl
@[simp] theorem beginFrame_freeIndex (f : LineFrame) (u : LineUser) : (beginFrame f u s).freeIndex = s.freeIndex := rfl
@[simp] theorem beginFrame_pending (f : LineFrame) (u : LineUser) : (beginFrame f u s).pending = s.pending := rfl
@[simp] theorem beginFrame_state (f : LineFrame) (u : LineUser) : (beginFrame f u s).line.state = s.line.state := rfl
@[simp] theorem beginFrame_owed (f : LineFrame) (u : LineUser) : (beginFrame f u s).line.owed = s.line.owed := rfl
@[simp] theorem beginFrame_silence (f : LineFrame) (u : LineUser) : (beginFrame f u s).line.silence = s.line.silence := rfl
@[simp] theorem beginFrame_haltTimer (f : LineFrame) (u : LineUser) :
    (beginFrame f u s).line.haltTimer = s.line.haltTimer := rfl
@[simp] theorem beginFrame_txn (f : LineFrame) (u : LineUser) : (beginFrame f u s).line.txn =
    some { frame := f, user := u, phase := .send, aborted := none, contestBroken := false, spaceHit := false } := rfl

@[simp] theorem addOwed_state (c : OwedCommand) : (addOwed c s).line.state = s.line.state := rfl
@[simp] theorem addOwed_txn (c : OwedCommand) : (addOwed c s).line.txn = s.line.txn := rfl
theorem addOwed_owed (c : OwedCommand) : (addOwed c s).line.owed =
    s.line.owed.filter (fun o => !supersededBy c o) ++ [{ command := c, framesBegun := 0 }] := rfl

@[simp] theorem cycleStart_dir : (cycleStart s).dir = s.dir := rfl
@[simp] theorem cycleStart_line : (cycleStart s).line = s.line := rfl
theorem cycleStart_cycle : (cycleStart s).sched.cycle =
    some { length := s.sched.period, remaining := s.sched.period } := rfl
/-- R74: after a cycle start the due set holds what it held and every ACTIVE slot. -/
theorem isDue_cycleStart (i : Slot) : (cycleStart s).isDue i = (s.isDue i || decide ((s.entry i).state = .active)) := by
  simp [cycleStart, State.isDue]

/-! ## Claims over the whole directory -/

@[simp] theorem entry_closeGates (i : Slot) : (closeGates s).entry i = { s.entry i with gateOpen := false } := by
  simp [closeGates, State.entry]
@[simp] theorem entry_zeroMisses (i : Slot) : (zeroMisses s).entry i = { s.entry i with missCount := 0 } := by
  simp [zeroMisses, State.entry]
@[simp] theorem entry_clearDirectory (i : Slot) : (clearDirectory s).entry i = Entry.blank := by
  simp [clearDirectory, State.entry]
@[simp] theorem ring_clearDirectory (i : Slot) : (clearDirectory s).ring i = none := by
  simp [clearDirectory, State.ring]
@[simp] theorem isDue_clearDirectory (i : Slot) : (clearDirectory s).isDue i = false := by
  simp [clearDirectory, State.isDue]
@[simp] theorem isDue_stopPolling (i : Slot) : (stopPolling s).isDue i = false := by
  simp [stopPolling, State.isDue]

/-! ## Settling -/

/-- No frame begins while one is on the line. -/
theorem service_busy {s : State} (h : s.line.txn.isSome = true) : service s = s := by
  cases e : s.line.txn with
  | none => simp [e] at h
  | some t => simp [service, State.lineAllows, e]

/-- R47: before the reply to SURVEY has been sent no survey frame begins. -/
theorem beginSurveyWork_owed {s : State} (h : s.surveyReplyOwed = true) : beginSurveyWork s = s := by
  simp [beginSurveyWork, h]

/-- R48: with that reply sent the survey's next frame begins. -/
theorem beginSurveyWork_sent {s : State} (h : s.surveyReplyOwed = false) : beginSurveyWork s = beginSurveyFrame s := by
  simp [beginSurveyWork, h]

/-- No frame begins while the line is dominant (R46). -/
theorem service_wireHeld {s : State} (h : s.wireHeld = true) : service s = s := by
  simp [service, State.lineAllows, h]

/-- With no hold asked for, none is taken. -/
theorem takeHold_none {s : State} (h : s.noHoldAsked) : takeHold s = s := by
  have h' : s.faults.holdAsked = false := h
  simp [takeHold, h']

/-- An event that asked for no hold and left a frame on the line settles to itself. -/
theorem settle_busy {s : State} (h : s.noHoldAsked) (ht : s.line.txn.isSome = true) : settle s = s := by
  rw [settle, takeHold_none h, service_busy ht]

/-- R63: with no survey told to stop, a frame boundary changes nothing. -/
theorem frameBoundary_none {s : State} (h : s.survey.stopping = false) : frameBoundary s = s := by
  simp [frameBoundary, h]

/-- R64: what a survey that stops leaves of the survey unit. -/
theorem surveyStops_survey : (surveyStops s).survey =
    { record :=
        { s.survey.record with
          state := .aborted
          finish := some s.now
          undescribed :=
            if describePending s.survey.round then s.survey.record.undescribed + 1 else s.survey.record.undescribed }
      round := none
      failures := 0
      stopping := false } := by
  simp only [surveyStops, latchSurveyDone_survey]
  rfl

/-- R64: what a survey that stops leaves alone. -/
theorem surveyStops_keeps : (surveyStops s).start = s.start ∧ (surveyStops s).settings = s.settings ∧
    (surveyStops s).dir = s.dir ∧ (surveyStops s).line = s.line ∧ (surveyStops s).sched = s.sched ∧
    (surveyStops s).store = s.store ∧ (surveyStops s).pool = s.pool ∧ (surveyStops s).faults = s.faults ∧
    (surveyStops s).nodes = s.nodes ∧ (surveyStops s).pending = s.pending := by
  simp [surveyStops]

/-- R63: after a frame boundary no survey is still to stop. -/
theorem frameBoundary_stopping : (frameBoundary s).survey.stopping = false := by
  unfold frameBoundary
  split
  · rw [surveyStops_survey]
  · rename_i h
    simpa using h

/-- Everything a frame boundary can do: what a survey that stops keeps, and a state with none to stop, it keeps. -/
theorem frameBoundary_keeps {P : State → Prop} {s : State} (stops : s.survey.stopping = true → P s → P (surveyStops s))
    (h : P s) : P (frameBoundary s) := by
  unfold frameBoundary
  split
  · rename_i hs
    exact stops hs h
  · exact h

/-- R63: a survey whose frame, answer or contest is on the line is only told to stop. -/
theorem stopSurvey_running {s : State} (h : s.line.state = .survey) (hf : s.surveyFrameRuns = true) :
    stopSurvey s = s.setSurvey { s.survey with stopping := true } := by
  simp [stopSurvey, h, hf]

/-- R63: a survey with nothing of its own on the line stops at once. -/
theorem stopSurvey_now {s : State} (h : s.line.state = .survey) (hf : s.surveyFrameRuns = false) :
    stopSurvey s = surveyStops s := by
  simp [stopSurvey, h, hf]

/-- R63: with the line in another state there is no survey to stop. -/
theorem stopSurvey_none {s : State} (h : s.line.state ≠ .survey) : stopSurvey s = s := by
  simp [stopSurvey, h]

/-- R133: a hold entry in HELD changes nothing. -/
theorem holdEntry_held {s : State} (h : s.line.state = .held) : holdEntry s = s := by simp [holdEntry, h]

/-- R131: after a hold entry the line state is HELD. -/
theorem holdEntry_state : (holdEntry s).line.state = .held := by
  unfold holdEntry
  split
  · assumption
  · rfl

/-- Everything the arbiter can do: what polls and started requests keep, it keeps. -/
theorem arbitrate_keeps {P : State → Prop}
    (poll : ∀ (i : Slot) (t : State), t.lowestDue = some i → P t → P (grantPoll i t))
    (start : ∀ (r : PoolRequest) (rest : List PoolRequest) (t : State), t.pool.queued = r :: rest → P t →
      P (startRequest r rest t)) :
    ∀ (n : Nat) (t : State), P t → P (arbitrate n t)
  | 0, _, h => h
  | n + 1, t, h => by
    unfold arbitrate
    split
    · rename_i hi
      exact poll _ t hi h
    · rename_i hq
      dsimp only
      split
      · exact start _ _ t hq h
      · exact arbitrate_keeps poll start n _ (start _ _ t hq h)
    · exact h

/-- Everything the taking up of the next frame can do: a property that each kind of beginning keeps is kept. -/
theorem service_keeps {P : State → Prop} {s : State}
    (poll : ∀ (i : Slot) (t : State), t.lowestDue = some i → P t → P (grantPoll i t))
    (start : ∀ (r : PoolRequest) (rest : List PoolRequest) (t : State), t.pool.queued = r :: rest → P t →
      P (startRequest r rest t))
    (attempt : ∀ (r : PoolRequest) (t : State), t.pool.inFlight = some r → P t → P (beginPoolAttempt r t))
    (owed : ∀ (o : OwedSend) (rest : List OwedSend) (t : State), t.line.owed = o :: rest → P t → P (beginOwed o rest t))
    (repeated : ∀ (f : LineFrame) (u : LineUser) (t : State), P t → P (beginFrame f u t))
    (survey : ∀ t : State, t.line.state = .survey → P t → P (beginSurveyFrame t)) (h : P s) : P (service s) := by
  unfold service
  split
  · split
    · rename_i ho
      exact owed _ _ s ho h
    · unfold beginWork
      split
      · exact h
      · split
        · exact repeated _ _ s h
        · exact h
      · split
        · rename_i hr
          exact attempt _ s hr h
        · split
          · exact repeated _ _ s h
          · exact arbitrate_keeps poll start _ s h
      · rename_i hs
        split
        · rename_i hr
          exact attempt _ s hr h
        · unfold beginSurveyWork
          split
          · exact h
          · exact survey s hs h
  · exact h

/-- Everything the taking of a hold can do. -/
theorem takeHold_keeps {P : State → Prop} {s : State}
    (hold : ∀ t : State, P t → P (holdEntry { t with faults := { t.faults with holdAsked := false } }))
    (h : P s) : P (takeHold s) := by
  unfold takeHold
  split
  · exact hold s h
  · exact h

end Sys2Proof.Machine
end

