-- ==== Sys2Proof/Laws/Memory.lean ====
section
/-! SUPPORT. Report memory: what a write changes, and that every memory operation keeps the canonical form. -/

namespace Sys2Proof.Machine

theorem wf_tail {k : Nat} {b : Byte} {rest : Memory} (h : Memory.wf ((k, b) :: rest) = true) : Memory.wf rest = true := by
  simp only [Memory.wf, Bool.and_eq_true] at h; exact h.2

theorem wf_above {k : Nat} {b : Byte} {rest : Memory} (h : Memory.wf ((k, b) :: rest) = true) :
    Memory.above k rest = true := by
  simp only [Memory.wf, Bool.and_eq_true] at h; exact h.1.2

theorem above_mono {a b : Nat} (m : Memory) (h : Memory.above b m = true) (hab : a ≤ b) : Memory.above a m = true := by
  cases m with
  | nil => rfl
  | cons c rest =>
    obtain ⟨k, v⟩ := c
    simp only [Memory.above, decide_eq_true_eq] at h ⊢
    omega

/-- Below the lowest offset listed every byte is blank. -/
theorem read_below : ∀ (m : Memory) (a : Nat), Memory.wf m = true → Memory.above a m = true → Memory.read m a = blankByte
  | [], _, _, _ => rfl
  | (k, b) :: rest, a, hw, ha => by
    have hk : a < k := by simpa [Memory.above] using ha
    have hn : k ≠ a := by omega
    simp only [Memory.read, hn, if_false]
    exact read_below rest a (wf_tail hw) (above_mono rest (wf_above hw) (by omega))

theorem above_write : ∀ (m : Memory) (a : Nat) (v : Byte) (c : Nat), Memory.wf m = true → Memory.above c m = true →
    c < a → Memory.above c (Memory.write m a v) = true
  | [], a, v, c, _, _, hca => by
    simp only [Memory.write]; split <;> simp [Memory.above, hca]
  | (k, b) :: rest, a, v, c, hw, hc, hca => by
    have hk : c < k := by simpa [Memory.above] using hc
    simp only [Memory.write]
    split
    · split <;> simp [Memory.above, hk, hca]
    · split
      · split
        · exact above_mono rest (wf_above hw) (by omega)
        · simp [Memory.above, hca]
      · simp [Memory.above, hk]

/-- A write keeps the canonical form. -/
theorem write_wf : ∀ (m : Memory) (a : Nat) (v : Byte), Memory.wf m = true → Memory.wf (Memory.write m a v) = true
  | [], a, v, _ => by
    simp only [Memory.write]; split <;> simp_all [Memory.wf, Memory.above]
  | (k, b) :: rest, a, v, hw => by
    have ht := wf_tail hw
    have ha := wf_above hw
    have hb : b ≠ blankByte := by
      simp only [Memory.wf, Bool.and_eq_true, decide_eq_true_eq] at hw; exact hw.1.1
    simp only [Memory.write]
    split
    · rename_i hlt
      split
      · exact hw
      · rename_i hv
        have hn : Memory.above a ((k, b) :: rest) = true := by simp [Memory.above, hlt]
        simp only [Memory.wf, hn, hv, hb, ha, ht, ne_eq, not_false_eq_true, decide_true, Bool.and_self]
    · split
      · rename_i heq
        subst heq
        split
        · exact ht
        · rename_i hv
          simp [Memory.wf, hv, ha, ht]
      · rename_i hge hne
        have : k < a := by omega
        simp [Memory.wf, hb, above_write rest a v k ht ha this, write_wf rest a v ht]

/-- The byte written reads as written. -/
theorem read_write_self : ∀ (m : Memory) (a : Nat) (v : Byte), Memory.wf m = true → Memory.read (Memory.write m a v) a = v
  | [], a, v, _ => by
    simp only [Memory.write]
    split
    · rename_i h; simp [Memory.read, h]
    · simp [Memory.read]
  | (k, b) :: rest, a, v, hw => by
    have ht := wf_tail hw
    have ha := wf_above hw
    simp only [Memory.write]
    split
    · rename_i hlt
      split
      · rename_i hv
        rw [hv]
        exact read_below _ a hw (by simp [Memory.above, hlt])
      · simp [Memory.read]
    · split
      · rename_i heq
        subst heq
        split
        · rename_i hv
          rw [hv]
          exact read_below rest a ht ha
        · simp [Memory.read]
      · rename_i hne
        simp only [Memory.read, if_neg (fun h : k = a => hne h.symm)]
        exact read_write_self rest a v ht

/-- Every other byte reads as before. -/
theorem read_write_ne : ∀ (m : Memory) (a c : Nat) (v : Byte), Memory.wf m = true → c ≠ a →
    Memory.read (Memory.write m a v) c = Memory.read m c
  | [], a, c, v, _, hca => by
    simp only [Memory.write]
    split
    · rfl
    · simp [Memory.read, Ne.symm hca]
  | (k, b) :: rest, a, c, v, hw, hca => by
    have ht := wf_tail hw
    simp only [Memory.write]
    split
    · split
      · rfl
      · simp [Memory.read, Ne.symm hca]
    · split
      · rename_i heq
        subst heq
        split
        · simp [Memory.read, Ne.symm hca]
        · simp [Memory.read, Ne.symm hca]
      · simp only [Memory.read]
        split
        · rfl
        · exact read_write_ne rest a c v ht hca

/-- The bytes of a record keep the canonical form. -/
theorem ringWrite_wf : ∀ (bytes : List Byte) (m : Memory) (r : Ring) (k : Nat), Memory.wf m = true →
    Memory.wf (ringWrite m r k bytes) = true
  | [], _, _, _, h => h
  | b :: rest, m, r, k, h => ringWrite_wf rest _ r (k + 1) (write_wf m (ringOffset r k) b h)

/-- Writing a record changes no byte outside the offsets it takes. -/
theorem read_ringWrite_ne : ∀ (bytes : List Byte) (m : Memory) (r : Ring) (k a : Nat), Memory.wf m = true →
    ¬ ringSpan r k bytes.length a → Memory.read (ringWrite m r k bytes) a = Memory.read m a
  | [], _, _, _, _, _, _ => rfl
  | b :: rest, m, r, k, a, h, ha => by
    have h0 : a ≠ ringOffset r k := fun e => ha ⟨0, by simp, by simpa using e⟩
    have hr : ¬ ringSpan r (k + 1) rest.length a := by
      rintro ⟨j, hj, e⟩
      refine ha ⟨j + 1, by simp; omega, ?_⟩
      rw [e]; congr 1; omega
    simp only [ringWrite]
    rw [read_ringWrite_ne rest _ r (k + 1) a (write_wf m _ b h) hr, read_write_ne m _ a b h h0]

theorem markOldest_wf (r : Ring) (m : Memory) (h : Memory.wf m = true) : Memory.wf (markOldest r m) = true := by
  simp only [markOldest]
  split
  · exact h
  · exact write_wf _ _ _ h

end Sys2Proof.Machine
end

