-- ==== Sys2Proof/Laws/Wire.lean ====
section
/-! SUPPORT. What the wired line and the contest can do: the levels of a slot, of 170 bit times, and their reading. -/

namespace Sys2Proof.Machine

/-- R25: LINE is dominant exactly when some party pulls it low. -/
theorem wired_dominant (parties : List Level) : wired parties = .dominant ↔ .dominant ∈ parties := by
  unfold wired
  split <;> simp_all

@[simp] theorem outsideDrives_dominant (pulls : Bool) :
    outsideDrives pulls = .dominant ↔ pulls = true := by
  unfold outsideDrives
  split <;> simp_all

@[simp] theorem contenderDrives_dominant (bit : Bool) (j : Nat) :
    contenderDrives bit j = .dominant ↔ bit = true ∧ j ≠ 1 := by
  unfold contenderDrives
  split <;> simp_all

/-- R41: everything a bit time of a slot can be: dominant where something slots pulls low, and in bit times 2 and 3
where a word still in the contest has a 1. -/
theorem slotLevel_dominant (slots : BitVec 168) (k : Nat) (words : List (BitVec 56)) (j : Nat) :
    slotLevel slots k words j = .dominant ↔
      slots.getLsbD (3 * (55 - k) + (j - 1)) = true ∨ j ≠ 1 ∧ ∃ w ∈ words, w.getLsbD k = true := by
  simp only [slotLevel, wired_dominant, List.mem_cons, List.mem_map]
  rw [eq_comm, outsideDrives_dominant]
  refine or_congr_right ⟨?_, ?_⟩
  · rintro ⟨w, hw, h⟩
    have h := (contenderDrives_dominant ..).1 h
    exact ⟨h.2, w, hw, h.1⟩
  · rintro ⟨hj, w, hw, h⟩
    exact ⟨w, hw, (contenderDrives_dominant ..).2 ⟨h, hj⟩⟩

/-- R41: three bit times a slot. -/
@[simp] theorem slotLevels_length (slots : BitVec 168) :
    ∀ (k : Nat) (words : List (BitVec 56)), (slotLevels slots k words).length = 3 * k
  | 0, _ => rfl
  | k + 1, words => by
    simp only [slotLevels, List.length_cons, slotLevels_length slots k]
    omega

/-- R41, R42: everything a slot can read: bit time `j + 1` of slot `n` of the last `k` is dominant where something outside
pulls low, and in bit times 2 and 3 where a word has a 1 there that no slot before has withdrawn. -/
theorem slotLevels_dominant (slots : BitVec 168) {j : Nat} (hj : j < 3) :
    ∀ (k n : Nat) (words : List (BitVec 56)), n < k →
      ((slotLevels slots k words)[3 * n + j]? = some .dominant ↔
        slots.getLsbD (3 * (55 - (k - 1 - n)) + j) = true ∨
          j ≠ 0 ∧ ∃ w ∈ words, w.getLsbD (k - 1 - n) = true ∧
            ∀ m, m < n → w.getLsbD (k - 1 - m) = false → (slotLevels slots k words)[3 * m + 2]? ≠ some .dominant)
  | k + 1, 0, words, _ => by
    have h := slotLevel_dominant slots k words (j + 1)
    have e : (slotLevels slots (k + 1) words)[3 * 0 + j]? = some (slotLevel slots k words (j + 1)) := by
      match j, hj with
      | 0, _ => rfl
      | 1, _ => rfl
      | 2, _ => rfl
    rw [e]
    simpa using h
  | k + 1, n + 1, words, hn => by
    let kept := if slotLevel slots k words 3 = .dominant then words.filter fun w => w.getLsbD k else words
    have tail (i : Nat) : (slotLevels slots (k + 1) words)[i + 3]? = (slotLevels slots k kept)[i]? := rfl
    have first : (slotLevels slots (k + 1) words)[3 * 0 + 2]? = some (slotLevel slots k words 3) := rfl
    have mem (w : BitVec 56) : w ∈ kept ↔
        w ∈ words ∧ (w.getLsbD k = false → slotLevel slots k words 3 ≠ .dominant) := by
      by_cases h : slotLevel slots k words 3 = .dominant <;> simp [kept, h]
    have ih := slotLevels_dominant slots hj k n kept (by omega)
    rw [show 3 * (n + 1) + j = 3 * n + j + 3 by omega, tail, ih,
      show k + 1 - 1 - (n + 1) = k - 1 - n by omega]
    refine or_congr_right (and_congr_right fun _ => exists_congr fun w => ?_)
    rw [mem]
    constructor
    · rintro ⟨⟨hw, h0⟩, hb, hm⟩
      refine ⟨hw, hb, fun m hlt hz => ?_⟩
      cases m with
      | zero => rw [first]; simpa using h0 (by simpa using hz)
      | succ m =>
        rw [show 3 * (m + 1) + 2 = 3 * m + 2 + 3 by omega, tail]
        exact hm m (by omega) (by rwa [show k - 1 - m = k + 1 - 1 - (m + 1) by omega])
    · rintro ⟨hw, hb, hm⟩
      refine ⟨⟨hw, fun hz => ?_⟩, hb, fun m hlt hz => ?_⟩
      · have := hm 0 (by omega) (by simpa using hz)
        rw [first] at this
        simpa using this
      · have := hm (m + 1) (by omega) (by rwa [show k + 1 - 1 - (m + 1) = k - 1 - m by omega])
        rwa [show 3 * (m + 1) + 2 = 3 * m + 2 + 3 by omega, tail] at this

/-- R41: a contest lasts 170 bit times. -/
@[simp] theorem contestWire_length (s : State) (lead : BitVec 2) (slots : BitVec 168) :
    (s.contestWire lead slots).length = 170 := by
  simp [State.contestWire, State.contestSlots]

/-- R43: a slot whose bit time 3 is dominant reads as 1; the slots after it give the lower bits. -/
theorem getLsbD_readSlots :
    ∀ (k j : Nat) (levels : List Level), k ≤ 56 → levels.length = 3 * k →
      ((readSlots k levels).getLsbD j = true ↔ j < k ∧ levels[3 * (k - 1 - j) + 2]? = some .dominant)
  | 0, j, levels, _, _ => by simp [readSlots]
  | k + 1, j, levels, hk, hl => by
    obtain ⟨a, b, c, rest, rfl⟩ : ∃ a b c rest, levels = a :: b :: c :: rest := by
      match levels, hl with
      | a :: b :: c :: rest, _ => exact ⟨a, b, c, rest, rfl⟩
    have hr : rest.length = 3 * k := by simp only [List.length_cons] at hl; omega
    have ih := getLsbD_readSlots k j rest (by omega) hr
    have hone : ((if c = .dominant then (1 : BitVec 56) <<< k else 0).getLsbD j = true) ↔ c = .dominant ∧ j = k := by
      by_cases hc : c = .dominant
      · simp only [hc, if_true, BitVec.getLsbD_shiftLeft]
        simp
        omega
      · simp [hc]
    simp only [readSlots, BitVec.getLsbD_or, Bool.or_eq_true, hone, ih]
    by_cases hj : j = k
    · subst hj
      simp
    · by_cases hlt : j < k
      · obtain ⟨d, rfl⟩ : ∃ d, k = j + 1 + d := ⟨k - (j + 1), by omega⟩
        have e : 3 * (j + 1 + d + 1 - 1 - j) + 2 = 3 * (j + 1 + d - 1 - j) + 2 + 3 := by omega
        rw [e]
        simp [hj, show j < j + 1 + d + 1 by omega]
        intro _
        omega
      · simp [hj, hlt]
        omega

/-- R43: a separator reads dominant exactly where one of the slots begins with a dominant bit time. -/
theorem separatorHit_iff :
    ∀ (k : Nat) (levels : List Level), levels.length = 3 * k →
      (separatorHit levels = true ↔ ∃ n, n < k ∧ levels[3 * n]? = some .dominant)
  | 0, levels, hl => by
    have : levels = [] := List.eq_nil_of_length_eq_zero (by omega)
    subst this
    simp [separatorHit]
  | k + 1, levels, hl => by
    obtain ⟨a, b, c, rest, rfl⟩ : ∃ a b c rest, levels = a :: b :: c :: rest := by
      match levels, hl with
      | a :: b :: c :: rest, _ => exact ⟨a, b, c, rest, rfl⟩
    have hr : rest.length = 3 * k := by simp only [List.length_cons] at hl; omega
    simp only [separatorHit, Bool.or_eq_true, decide_eq_true_eq, separatorHit_iff k rest hr]
    constructor
    · rintro (h | ⟨n, hn, h⟩)
      · exact ⟨0, by omega, by simpa using h⟩
      · exact ⟨n + 1, by omega, by simpa [Nat.mul_add] using h⟩
    · rintro ⟨n, hn, h⟩
      cases n with
      | zero => exact .inl (by simpa using h)
      | succ n => exact .inr ⟨n, by omega, by simpa [Nat.mul_add] using h⟩

end Sys2Proof.Machine
end

