-- ==== Sys2Proof/Tests/Slice0.lean ====
section
/-! SUPPORT. The model's own tests: the refusals of well-formedness, values the manual works out, one step at a time, and for every statement with hypotheses a state and operands that meet them. -/

namespace Sys2Proof.Tests

open Sys2Proof.Machine

-- One theorem after another: a kernel evaluation that waits for the ones before it would hold a thread each.
set_option Elab.async false

/-! ## Small states -/

/-- A part that takes every request: just started, its causes cleared. -/
def base : State := { State.reset with start := { State.reset.start with causes := 0 } }

/-- That part with a reply owed. -/
def replying : State := base.replied 0x01 .ok []

/-- That part in a line state, with the timers that go with it. -/
def inLine (l : LineState) : State :=
  { base with
    line := { base.line with state := l, silence := decide (l = .running), haltTimer := decide (l = .held) }
    sched :=
      { base.sched with cycle := if l = .running then some { length := 1000, remaining := 0 } else none }
    survey :=
      { base.survey with
        record := { SurveyRecord.blank with state := if l = .survey then .running else .never } } }

/-- A node's descriptor: an actuator with reports of 4 bytes. -/
def valve : Descriptor := { kind := .actuator, classCode := 9, reportLength := 4, tags := [] }

/-- The identity of node A in 2.9. -/
def nodeA : Identity := 0x21C40009A6F3

/-- An entry in a state, held for node A. -/
def entryIn (st : EntryState) : Entry :=
  { Entry.blank with
    state := st, identity := some nodeA, seatedAt := some 1, lastSequence := some 49
    descriptor := if st = .undescribed then none else some valve }

/-- Slot 7 as an index. -/
def seven : Slot := 6

/-- A line state with slot 7 in an entry state. -/
def holding (l : LineState) (st : EntryState) : State := (inLine l).setEntry seven (entryIn st)

/-- The ring of 5.10: 64 bytes at 256, KEEP_OLD, watermark 40. -/
def smallRing : Ring := newRing 256 64 .keepOld 40

/-- A frame on the line for slot 7. -/
def onFrame (c : LineCommand) (u : LineUser) (p : LinePhase) : Transaction :=
  { frame := addressed c seven, user := u, phase := p, aborted := none, contestBroken := false, spaceHit := false }

/-- A broadcast on the line. -/
def onBroadcast (c : LineCommand) (u : LineUser) (p : LinePhase) : Transaction :=
  { onFrame c u p with frame := broadcast c }

/-- A round in a phase, for node A and slot 7. -/
def roundIn (p : RoundPhase) : Round :=
  { freshRound with phase := p, reading := some (.clean nodeA (crc8 (identityBytes nodeA))), chosen := some seven }

/-- A pool request in its second attempt. -/
def asked (work : PoolWork) : PoolRequest := { tag := 5, slot := seven, work, attempts := 2 }

/-- An answer frame with its check. -/
def answer (chars : List Byte) : List Byte := chars ++ [crc8 chars]

/-- The state after a command. -/
def after (c : Instr) (s : State) : State :=
  match exec c s with
  | .next t => t
  | .fault _ => s
  | .refused _ => s

/-! ## Well-formedness: what the check refuses -/

theorem test_refuses_frame_without_len : (Instr.requestFrame []).wellFormed = false := by decide +kernel
theorem test_refuses_frame_with_len_zero : (Instr.requestFrame [0, 1, 2]).wellFormed = false := by decide +kernel
theorem test_refuses_frame_with_len_241 : (Instr.requestFrame (241 :: List.replicate 243 0)).wellFormed = false := by decide +kernel
theorem test_refuses_short_frame : (Instr.requestFrame [1, 1, 0x3E]).wellFormed = false := by decide +kernel
theorem test_refuses_long_overrun_frame : (Instr.overrunFrame [1, 1, 2, 3, 4]).wellFormed = false := by decide +kernel
/-- RXD low for some bit times, then high for some. -/
def lowThenHigh (low high : Nat) : List PinLevel := List.replicate low .low ++ List.replicate high .high

theorem test_refuses_framing_error_after_whole_frame :
    (Instr.framingError ⟨some [1, 1, 0x3E, 0x1F], lowThenHigh 10 0⟩).wellFormed = false := by decide +kernel
theorem test_refuses_framing_error_with_high_stop_bit :
    (Instr.framingError ⟨none, lowThenHigh 9 1⟩).wellFormed = false := by decide +kernel
theorem test_refuses_framing_error_after_the_wait :
    (Instr.framingError ⟨none, lowThenHigh 11 10 ++ lowThenHigh 20 0⟩).wellFormed = false := by decide +kernel
theorem test_refuses_framing_error_before_next_start_bit :
    (Instr.framingError ⟨none, lowThenHigh 10 1 ++ lowThenHigh 1 0⟩).wellFormed = false := by decide +kernel
theorem test_refuses_timeout_after_whole_frame : (Instr.timeoutError [1, 1, 0x3E, 0x1F]).wellFormed = false := by decide +kernel
theorem test_refuses_discard_of_len_1 : (Instr.frameDiscardedByLen 1).wellFormed = false := by decide +kernel
theorem test_refuses_discard_of_len_240 : (Instr.frameDiscardedByLen 240).wellFormed = false := by decide +kernel
theorem test_refuses_label_of_15 : (Instr.setLabel (List.replicate 15 0x41)).wellFormed = false := by decide +kernel
theorem test_refuses_write_of_none : (Instr.nodeWrite 1 1 1 []).wellFormed = false := by decide +kernel
theorem test_refuses_write_of_9 : (Instr.nodeWrite 1 1 1 (List.replicate 9 0)).wellFormed = false := by decide +kernel
theorem test_refuses_empty_answer : (Instr.answerReceived []).wellFormed = false := by decide +kernel
theorem test_refuses_answer_of_21 : (Instr.answerReceived (List.replicate 21 0)).wellFormed = false := by decide +kernel
theorem test_refuses_node_of_identity_0 : (Instr.nodeRestart 1 0 [1, 9, 4] 0 [] ⟨false, []⟩).wellFormed = false := by decide +kernel
theorem test_refuses_node_of_no_kind : (Instr.nodeRestart 1 nodeA [3, 9, 4] 0 [] ⟨false, []⟩).wellFormed = false := by decide +kernel
theorem test_refuses_report_of_wrong_length :
    (Instr.nodeRestart 1 nodeA [1, 9, 4] 0 [[1, 2]] ⟨false, []⟩).wellFormed = false := by decide +kernel
theorem test_refuses_item_of_9 :
    (Instr.nodeRestart 1 nodeA [1, 9, 4] 0 [] ⟨false, [⟨1, List.replicate 9 0, true⟩]⟩).wellFormed = false := by decide +kernel
theorem test_refuses_two_items_of_one_number :
    (Instr.nodeRestart 1 nodeA [1, 9, 4] 0 [] ⟨false, [⟨1, [0], true⟩, ⟨1, [1], true⟩]⟩).wellFormed = false := by decide +kernel
theorem test_takes_well_formed :
    (Instr.nodeRestart 1 nodeA [1, 9, 4] 0 [[1, 2, 3, 4]] ⟨false, []⟩).wellFormed = true ∧
      (Instr.requestFrame [1, 1, 0x3E, 0x1F]).wellFormed = true ∧ (Instr.nodeWrite 1 1 1 [9]).wellFormed = true ∧
      (Instr.framingError ⟨some [1, 1], lowThenHigh 10 0⟩).wellFormed = true ∧
      (Instr.framingError ⟨none, lowThenHigh 30 4⟩).wellFormed = true ∧
      (Instr.framingError ⟨none, lowThenHigh 3 4 ++ lowThenHigh 9 2⟩).wellFormed = true ∧
      (Instr.framingError ⟨none, lowThenHigh 11 9 ++ lowThenHigh 20 30⟩).wellFormed = true := by
  decide +kernel

/-! ## What the manual computes (11.5, 2.9, 5.10) -/

theorem test_crc8_of_keep : crc8 [0x37, 0x00] = 0x9D := by decide +kernel
theorem test_crc16_of_status : crc16 [0x01, 0x01] = 0x3E1F := by decide +kernel
theorem test_keep_frame : lineFrameBytes (broadcast .keep) = [0x37, 0x00, 0x9D] := by decide +kernel
theorem test_status_frame : linkFrame [0x01] = [0xD5, 0x01, 0x01, 0x3E, 0x1F] := by decide +kernel

/-- The reply body that a state owes. -/
def reply (o : Host.Outcome State Fault Refusal) : List Byte :=
  match o with
  | .next t => t.link.reply.getD []
  | .fault _ => []
  | .refused _ => []

theorem test_status_reply :
    (reply (exec (.requestFrame [1, 1, 0x3E, 0x1F]) base)).length = 27 ∧
      (reply (exec (.requestFrame [1, 1, 0x3E, 0x1F]) base)).take 2 = [0x81, 0x00] := by decide +kernel

/-- The first round of 2.9: what the line reads. -/
def firstReading : BitVec 56 := contestWord nodeA

/-- A node in a state, which heard the CALL of the contest whole. -/
def nodeIn (number : Nat) (x : Identity) (st : NodeState) : Node :=
  { number, identity := x, state := st, descriptor := [1, 9, 4], held := [], lastMade := 0, alarm := false
    items := [⟨3, [1], true⟩], inContest := true, leaving := false, dropped := false }

/-- The three nodes of 2.9. -/
def threeNodes : List Node :=
  [nodeIn 1 nodeA .contending, nodeIn 2 0x21C40009A6E0 .contending, nodeIn 3 0x0B1700000042 .contending]

/-- Something outside pulls low in bit times 2 and 3 of the slots whose bits are 1 in a word. -/
def pulled (word : BitVec 56) : BitVec 168 :=
  (List.range 56).foldl (fun o k => if word.getLsbD k then o ||| (6 : BitVec 168) <<< (3 * (55 - k)) else o) 0

/-- R41: slot 3 carries bit 45, a 1 of the winner; slot 1 carries bit 47, a 0 of every contender here. -/
theorem test_contest_layout :
    let wire := ({ base with nodes := threeNodes } : State).contestWire 0 0
    wire.length = 170 ∧ wire.take 5 = List.replicate 5 .recessive ∧
      (wire.drop 8).take 3 = [.recessive, .dominant, .dominant] ∧
      ({ base with nodes := threeNodes } : State).contestHit 0 0 = false ∧ base.contestHit 1 0 = true ∧
      base.contestHit 0 (pulled (1 <<< 54)) = false ∧ base.contestHit 0 8 = true ∧ base.contestReading 16 = 0 ∧
      base.contestReading 32 = 1 <<< 54 ∧ base.contestReading (pulled 5) = 5 := by decide +kernel

theorem test_contest_withdraws :
    ({ base with nodes := threeNodes } : State).contestReading 0 = firstReading ∧
      (threeNodes.map fun n => (contestNode firstReading n).state) = [.contending, .withdrawn, .withdrawn] ∧
      (contestNode firstReading { nodeIn 3 0x0B1700000042 .contending with inContest := false }).state = .contending := by
  decide +kernel

theorem test_unseat_leaves_after_the_answer :
    (hearFrame (addressed .unseat seven) (nodeIn 1 nodeA (.seated seven))).state = .seated seven ∧
      (departed (hearFrame (addressed .unseat seven) (nodeIn 1 nodeA (.seated seven)))).state = .unseated := by
  decide +kernel

theorem test_dropped_outputs_stay_safe :
    outputsSafe { nodeIn 1 nodeA (.seated seven) with dropped := true } = true ∧
      outputsSafe (hearFrame (addressed .desc seven) { nodeIn 1 nodeA (.seated seven) with dropped := true }) = false := by
  decide +kernel

theorem test_character :
    charLevels 0x05 =
      [.dominant, .recessive, .dominant, .recessive, .dominant, .dominant, .dominant, .dominant, .dominant, .recessive] ∧
      readChar (charLevels 0x05) = some 0x05 := by decide +kernel

theorem test_link_character :
    linkCharLevels 0x05 = [.low, .high, .low, .high, .low, .low, .low, .low, .low, .high] ∧
      readLinkChar (linkCharLevels 0x05) = some 0x05 ∧ readLinkChar (lowThenHigh 10 0) = none ∧
      base.txdLevel 0 = .high ∧ replying.txdLevel 0 = .low ∧ replying.txdLevel 1 = .high := by decide +kernel

/-- R157: a long low level is one framing error, and frames are taken again once RXD has been high for a character time:
four bit times and one millisecond at 57600 bit/s. -/
theorem test_long_low_level :
    let waits := after (.framingError ⟨none, lowThenHigh 30 4⟩) base
    waits.link.framing = 1 ∧ waits.link.rx.highDue = 6 ∧
      (after (.framingError ⟨none, lowThenHigh 20 0⟩) waits).link.framing = 2 ∧
      (after (.framingError ⟨none, lowThenHigh 10 0⟩) waits).link.framing = 1 ∧
      (after (.framingError ⟨none, lowThenHigh 11 9 ++ lowThenHigh 20 0⟩) base).link.framing = 2 ∧
      (after (.requestFrame [1, 1, 0x3E, 0x1F]) waits).link.reply = none ∧
      ((after (.requestFrame [1, 1, 0x3E, 0x1F]) (waits.passTime 1)).link.reply.isSome = true) ∧
      ((after (.requestFrame [1, 1, 0x3E, 0x1F]) (after (.timeoutError [1, 1]) waits)).link.reply.isSome = true) ∧
      (after (.timeoutError [1, 1]) waits).link.timeout = 0 ∧
      ((after (.requestFrame [1, 1, 0x3E, 0x1F]) (after (.framingError ⟨none, lowThenHigh 10 0⟩) base)).link.reply.isSome =
        true) := by decide +kernel

/-- Report number `n` of 5.10. -/
def report (n : Byte) : ReportRecord :=
  { sequence := n, timestamp := 0, gap := false, nodeAlarm := false, lossBefore := false, payload := [1, 2, 3, 4] }

/-- A report appended to the ring of slot 7. -/
def append (n : Byte) (s : State) : State :=
  match s.ring seven with
  | some r => appendTo seven r (report n) s
  | none => s

/-- 5.10 up to step 4. -/
def filled : State :=
  append 55 (append 54 (append 53 (append 52 (append 51 (append 50 (base.setRing seven (some smallRing)))))))

theorem test_ring_refuses :
    filled.ring seven =
      some { smallRing with used := 55, count := 5, pendingLoss := true, stored := 5, refused := 1 } := by decide +kernel

/-- 5.10 from step 5 to step 6: two records fetched, one appended that wraps. -/
def wrapped : State :=
  append 56 (filled.setRing seven ((filled.ring seven).map (dropRecords filled.store.memory 2)))

theorem test_ring_wraps :
    wrapped.ring seven =
      some { smallRing with oldest := 22, used := 44, count := 4, stored := 6, refused := 1 } := by decide +kernel

/-- 5.10 from step 7 to step 9: KEEP_NEW, and a record that takes the oldest one's place. -/
def replaced : State :=
  append 58 (append 57 (wrapped.setRing seven ((wrapped.ring seven).map fun r => { r with policy := .keepNew })))

theorem test_ring_discards :
    replaced.ring seven =
        some
          { smallRing with
            policy := .keepNew, oldest := 33, used := 55, count := 5, stored := 8, refused := 1, discarded := 1 } ∧
      (replaced.record .ringOverflow).count = 2 := by decide +kernel

theorem test_ring_reads_back :
    (replaced.ring seven).map (fun r => (readRecords replaced.store.memory r 3 0).map fun b => (b.headD 0, b.getD 5 0)) =
      some [(53, 4), (54, 0), (56, 4)] := by decide +kernel

/-! ## Reset and the queue -/

theorem test_reset_queue : State.reset.pending = [] := rfl
theorem test_reset_ready_after_clear :
    exec .clearCauses State.reset = .next (base.replied 0x04 .ok []) := by rfl
theorem test_step_takes_front :
    step { State.reset with pending := [.clearCauses, .status] } =
      .next { base.replied 0x04 .ok [] with pending := [.status] } := by rfl
theorem test_tick_counts_the_clock : step base = .next (base.passTime 1) := by rfl
theorem test_no_word_spells_a_command : decodeTableWord 16 0 = none ∧ base.withFetchWord 16 0 = base := ⟨rfl, rfl⟩

/-! ## States and operands that meet the hypotheses of the statements -/

/-- A part in a start phase. -/
def inPhase (p : StartPhase) : State := { base with start := { base.start with phase := p } }

/-- A kind pending with a deadline at 5. -/
def pendingKind (k : FaultKind) : State :=
  base.setRecord k
    { FaultRecord.blank with
      count := 1, first := some ⟨7, 1, 0, false⟩, latest := some ⟨7, 1, 0, false⟩, alert := .pending, deadline := some 5 }

/-- A part with a settings write in a phase. -/
def writing (p : WritePhase) : State := base.setSettings { base.settings with store := .writing p (snapshot base) }

theorem witness_EmptyQueueTicks :
    base.pending = [] ∧ (inPhase .off).start.phase = .off ∧ (inPhase .held).start.phase = .held ∧
      (inPhase (.delay 0)).start.phase = .delay 0 ∧ (inPhase (.delay 50)).start.phase = .delay (49 + 1) ∧
      (((pendingKind .nodeAlarm).passTime 5).firstExpired = some .nodeAlarm ∧
        ((pendingKind .nodeAlarm).passTime 4).firstExpired = none) ∧
      ((inLine .running).firstExpired = none ∧ cycleDue (inLine .running) = true) ∧ cycleDue base = false := by
  decide +kernel

theorem witness_RequestBodiesDecode :
    (Instr.nodeWrite 1 7 3 [9]).wellFormed = true ∧ encodeBody (.nodeWrite 1 7 3 [9]) = some [0x41, 1, 7, 3, 9] ∧
      (Instr.nodeWrite 1 7 3 [1, 2, 3, 4, 5, 6, 7, 8]).wellFormed = true ∧
      decodeBody [0x41, 1, 7, 3, 9] = .ok (.nodeWrite 1 7 3 [9]) ∧
      decodeBody [0x18, 0x27, 0x10, 15] = .ok (.setPoll 10000 15) ∧
      decodeBody [0x30, 7, 0x01, 0x00, 0x00, 0x40, 0x00, 0x00, 0x28] = .ok (.assignRing 7 256 64 0 40) :=
  ⟨rfl, rfl, rfl, rfl, rfl, rfl⟩

theorem witness_GoodFrameIsItsRequest :
    base.listens ∧ base.hunts ∧ Instr.status.wellFormed = true ∧ encodeBody .status = some [0x01] := by decide +kernel

theorem witness_BadCheckIsRejected :
    base.listens ∧ base.hunts ∧ crc16 [1, 1] ≠ word16 0x3E 0x1E ∧ wholeFrame [1, 1, 0x3E, 0x1F] = true ∧
      wholeFrame (240 :: List.replicate 242 0) = true := by decide +kernel

/-- At the longest body too, some check does not match. -/
theorem witness_BadCheckIsRejected_longest :
    (List.replicate 240 (0 : Byte)).length = 240 ∧
      ∃ low : Byte, crc16 (240 :: List.replicate 240 0) ≠ word16 0 low := by
  refine ⟨by decide +kernel, ?_⟩
  by_cases h : crc16 (240 :: List.replicate 240 0) = word16 0 0
  · exact ⟨1, by rw [h]; decide +kernel⟩
  · exact ⟨0, h⟩

theorem witness_UnreadableAndUntimelyRequests_unreadable :
    base.listens ∧ base.hunts ∧ decodeBody [0x60] = .error .unknownRequest ∧ decodeBody [0x10, 0] = .error .badLength ∧
      decodeBody (0x60 :: List.replicate 239 0) = .error .unknownRequest :=
  ⟨by decide +kernel, by decide +kernel, rfl, rfl, rfl⟩

theorem witness_UnreadableAndUntimelyRequests :
    State.reset.listens ∧ State.reset.start.causes ≠ 0 ∧ encodeBody .startLine = some [0x10] ∧
      (Instr.startLine ≠ .status ∧ Instr.startLine ≠ .identify ∧ Instr.startLine ≠ .readCauses ∧
        Instr.startLine ≠ .clearCauses) ∧
      (replying.start.phase = .running ∧ replying.link.reply.isSome = true) ∧ (inPhase .held).start.phase ≠ .running := by
  decide +kernel

theorem witness_FrameEventsAreTaken :
    (replying.start.phase = .running ∧ replying.link.reply.isSome = true ∧ replying.hunts) ∧ (base.listens ∧ base.hunts) ∧
      wholeFrame [1, 1, 0x3E, 0x1F] = true ∧ partialFrame [] = true ∧ partialFrame [1, 1, 0x3E] = true ∧
      partialFrame (240 :: List.replicate 241 0) = true ∧ 241 ≤ (241 : Byte).toNat ∧ 241 ≤ (255 : Byte).toNat ∧
      (after (.framingError ⟨none, lowThenHigh 11 9⟩) base).link.rx.highDue = 1 ∧
      (after (.framingError ⟨none, lowThenHigh 11 0⟩) base).link.rx.highDue = 10 ∧ 10 ≤ 1 * (base.link.rate / 1000) ∧
      (brokenLevels (lowThenHigh 11 0) = true ∧ brokenLevels (lowThenHigh 11 9 ++ lowThenHigh 1 10) = true ∧
        brokenLevels (lowThenHigh 10 3) = true ∧ longLow (lowThenHigh 10 3) = false) ∧
      (longLows 0 (lowThenHigh 10 0) = 0 ∧ longLows 0 (lowThenHigh 11 0) = 1 ∧
        laterLongLows (lowThenHigh 11 9 ++ lowThenHigh 11 0) = 1) ∧
      (after (.framingError ⟨none, lowThenHigh 11 9⟩) base).link.rx.phase = .hunt ∧
      highDueAfter (lowThenHigh 3 4 ++ lowThenHigh 10 2) = 0 ∧ highDueAfter (lowThenHigh 3 4 ++ lowThenHigh 11 2) = 8 ∧
      highDueAfter (lowThenHigh 8 1 ++ lowThenHigh 11 0) = 10 ∧ (lowThenHigh 10 0).getLast? = some .low ∧
      replying.link.reply = some [0x81, 0x00] ∧ base.link.reply = none ∧
      (linkFrame [0x81, 0x00])[0]? = some 0xD5 ∧ replying.surveyReplyOwed = false ∧
      replying.link.restartDue = false ∧ replying.link.rateChange = none ∧
      (replying.setLink { replying.link with rateChange := some 9600 }).link.rateChange = some 9600 := by decide +kernel

theorem witness_LinkAndSettingsRequestsDecide :
    base.ready ∧ base.settings.store = .idle ∧ (writing .write).ready ∧ (writing .write).settings.store ≠ .idle ∧
      linkRateOf 5 = none ∧ linkRateOf 2 = some base.link.rate ∧ linkRateOf 0 = some 9600 ∧ linkRateOf 4 = some 230400 ∧
      9600 ≠ base.link.rate ∧ 32 ≤ (32 : Byte).toNat := by decide +kernel

theorem witness_LinkAndSettingsRequestsDecide_write :
    (writing .write).start.phase = .running ∧ (writing .write).settings.store = .writing .write (snapshot base) ∧
      (writing .mark).settings.store = .writing .mark (snapshot base) ∧
      (writing .readback).settings.store = .writing .readback (snapshot base) ∧
      blankImage ≠ { snapshot base with patternValid := true } := by decide +kernel

theorem witness_StartsBeginAndEnd :
    base.start.pinLow = false ∧ base.start.phase ≠ .off ∧ (inPhase .held).start.phase = .held ∧
      (inPhase (.delay 50)).start.phase = .delay 50 ∧ (inPhase .off).start.phase = .off ∧
      (after .resetPinLow (inPhase .off)).start.pinLow = true ∧
      (writing .mark).settings.store = .writing .mark (snapshot base) ∧
      (let r := replying.setLink { replying.link with restartDue := true }
       r.start.phase = .running ∧ r.start.pinLow = false ∧ r.link.restartDue = true ∧ r.link.reply.isSome = true) ∧
      base.settings.store ≠ .writing .mark (snapshot base) := by decide +kernel

theorem witness_StartsLoadTheSettings :
    base.start.pinLow = false ∧ (inPhase .held).start.phase = .held ∧ (inPhase .held).settings.store = .idle ∧
      (let r := replying.setLink { replying.link with restartDue := true }
       r.settings.store = .idle ∧ r.start.phase = .running ∧ r.start.pinLow = false ∧ r.link.restartDue = true ∧
         r.link.reply.isSome = true) ∧ base.settings.store = .idle ∧ imageWhole base.settings.image = false ∧
      imageWhole (snapshot base) = true := by decide +kernel

theorem witness_LineRequests :
    (∀ l ∈ [LineState.off, .running, .survey, .held],
      (inLine l).ready ∧ (inLine l).noHoldAsked ∧ (inLine l).line.state = l ∧ (inLine l).alertPin = false ∧
        (inLine l).lineAllows = true ∧ (inLine l).line.owed = [] ∧ (inLine l).pool.inFlight = none) ∧
    ((pendingKind .nodeAlarm).ready ∧ (pendingKind .nodeAlarm).alertPin = true) ∧
    ((inLine .running).setTxn (some (onBroadcast .keep .keepAlive .send))).lineAllows = false := by decide +kernel

/-- A survey accepted while a frame's SPACE stands, its reply still owed. -/
def surveyAsked : State := after .survey ((inLine .running).setTxn (some (onFrame .poll .poll .space)))

theorem witness_SurveyBegins :
    surveyAsked.start.phase = .running ∧ surveyAsked.link.reply = some [0x96, 0x00] ∧ surveyAsked.line.state = .survey ∧
      surveyAsked.line.owed = [] ∧ surveyAsked.pool.inFlight = none ∧ surveyAsked.noHoldAsked ∧
      surveyAsked.line.txn = some (onFrame .poll .poll .space) ∧ surveyAsked.lineAllows = false ∧
      surveyAsked.link.restartDue = false ∧ surveyAsked.link.rateChange = none ∧
      (after .survey (inLine .running)).lineAllows = true ∧ (after .survey (inLine .running)).survey.round = none := by
  decide +kernel

/-- R47: no survey frame begins before the reply has been sent, also where the line becomes free before. -/
theorem test_survey_waits_for_its_reply :
    (after .spaceEnd surveyAsked).line.txn = none ∧
      (after .replyEnd (after .spaceEnd surveyAsked)).line.txn = some (onBroadcast .call .survey .send) ∧
      (after .spaceEnd (after .replyEnd surveyAsked)).line.txn = some (onBroadcast .call .survey .send) ∧
      (after .holdLine ((after .survey (inLine .running)).setLink base.link)).survey.record.state = .aborted := by
  decide +kernel

theorem witness_LineRateSurveyResultAndSetPoll :
    base.ready ∧ (10 : Byte).toNat ∈ [10, 20, 40] ∧ (40 : Byte).toNat ∈ [10, 20, 40] ∧ (41 : Byte).toNat ∉ [10, 20, 40] ∧
      (inLine .running).line.state ≠ .off ∧ base.line.state = .off ∧
      (10 ≤ (10 : BitVec 16).toNat ∧ (10000 : BitVec 16).toNat ≤ 10000 ∧ 1 ≤ (1 : Byte).toNat ∧ (15 : Byte).toNat ≤ 15) ∧
      ¬ (10 ≤ (9 : BitVec 16).toNat) ∧ ¬ ((10001 : BitVec 16).toNat ≤ 10000) ∧ ¬ (1 ≤ (0 : Byte).toNat) ∧
      ¬ ((16 : Byte).toNat ≤ 15) := by decide +kernel

theorem witness_EntryRequests :
    (∀ st ∈ [EntryState.active, .paused, .undescribed, .lost],
      (holding .off st).ready ∧ ((holding .off st).entry seven).state = st ∧ ((holding .off st).entry seven).identity = some nodeA) ∧
    (base.entry seven).state = .free ∧ (holding .survey .lost).line.state = .survey ∧ (holding .held .active).line.state = .held ∧
    ((holding .off .active).entry seven).gateMode ≠ .free ∧
    ({ entryIn .active with gateMode := .free } : Entry).gateMode = .free ∧
    (gateModeOf 0 = some .gated ∧ gateModeOf 2 = some .free ∧ gateModeOf 3 = none) ∧
    slotOf (slotByte 0) = some 0 ∧ slotOf (slotByte 31) = some 31 := by decide +kernel

/-- A part with a binding of slot 7. -/
def bound (x : Identity) : State :=
  { holding .off .active with dir := { (holding .off .active).dir with bindings := putCell base.dir.bindings seven (some x) } }

theorem witness_BindDecides :
    (bound nodeA).ready ∧ cell (bound nodeA).dir.bindings seven = some nodeA ∧
      cell (bound 5).dir.bindings seven = some 5 ∧ (5 : Identity) ≠ nodeA ∧ cell base.dir.bindings seven = none ∧
      ((bound 5).entry seven).state ≠ .free ∧ ((bound 5).entry seven).identity = some nodeA := by decide +kernel

theorem witness_BadSlotsAreRefused :
    base.ready ∧ slotOf 0 = none ∧ slotOf 33 = none ∧ slotOf 255 = none ∧ (gateModeOf 0).isSome = true ∧
      (policyOf 1).isSome = true ∧ 64 ∈ ringSizes ∧ (4096 : BitVec 16).toNat ≤ 4096 ∧ (10 : Byte).toNat ≤ 10 ∧
      poolForm (.nodeDescribe 1 33) = some (0x42, 1, 33, .describe) ∧ (1 : Byte) ≠ 0 ∧ 32 < (33 : Byte).toNat := by
  decide +kernel

/-- Slot 7 ACTIVE with the ring of 5.10. -/
def ringed : State := (holding .running .active).setRing seven (some smallRing)

theorem witness_RingsAreAssignedSetAndReleased :
    ringed.ready ∧ (ringed.entry seven).state ≠ .free ∧ ringed.ring seven = some smallRing ∧
      (policyOf 0 = some .keepOld ∧ policyOf 1 = some .keepNew ∧ policyOf 2 = none) ∧
      (64 ∈ ringSizes ∧ 4096 ∈ ringSizes ∧ 8192 ∉ ringSizes) ∧ (4096 : Nat) + 4096 ≤ 8192 ∧ 8128 % 64 = 0 ∧
      ringed.overlapsOther seven 256 64 = false ∧ ringed.overlapsOther 0 256 64 = true ∧
      ringed.overlapsOther 0 320 64 = false ∧ (slotOf 0 = none ∧ (base.entry seven).state = .free) ∧
      (64 ≤ smallRing.size ∧ smallRing.size < 65) ∧ 4096 < (4097 : BitVec 16).toNat ∧
      (holding .off .active).ring seven = none := by decide +kernel

theorem witness_FetchPeekFlushAndRingInfo :
    ringed.ready ∧ 1 ≤ (1 : Byte).toNat ∧ (10 : Byte).toNat ≤ 10 ∧ ¬ (1 ≤ (0 : Byte).toNat) ∧ ¬ ((11 : Byte).toNat ≤ 10) ∧
      ringed.ring seven = some smallRing ∧ (holding .off .active).ring seven = none ∧
      ((holding .off .active).entry seven).state ≠ .free ∧ (base.entry seven).state = .free := by decide +kernel

theorem witness_FetchPeekFlushAndRingInfo_flush :
    ringed.ready ∧ (ringed.entry seven).state ≠ .free ∧ ringed.ring seven = some smallRing ∧
      (recordBytes (report 50)).length ≤ smallRing.size ∧ (report 50).lossBefore = false := by decide +kernel

/-- A pool of eight completed requests, tags 1 to 8. -/
def fullPool : Pool :=
  { queued := [], inFlight := none
    completed := [1, 2, 3, 4, 5, 6, 7, 8].map fun t => { request := { asked .describe with tag := t }, outcome := .done, data := [] } }

theorem witness_PoolRequestsAreCheckedInOrder :
    ringed.ready ∧ patternOf 2 = none ∧ poolForm (.nodeRead 0 7 1) = some (0x40, 0, 7, .read 1) ∧
      poolForm (.nodeWrite 9 7 1 [1]) = some (0x41, 9, 7, .write 1 [1]) ∧
      poolForm (.nodeTest 9 7 1) = some (0x44, 9, 7, .test .b) ∧ (9 : Byte) ≠ 0 ∧ slotOf 33 = none ∧ slotOf 7 = some seven ∧
      (inLine .held).line.state = .held ∧ (base.entry seven).state = .free ∧ (ringed.entry seven).state ≠ .free ∧
      ((8 : Byte) ∈ fullPool.tags ∧ (9 : Byte) ∉ fullPool.tags ∧ 8 ≤ fullPool.size) ∧ base.pool.size < 8 ∧
      isWrite (.write 1 [1]) = true ∧ (ringed.entry seven).gateMode ≠ .free ∧ (ringed.entry seven).gateOpen = false := by
  decide +kernel

theorem witness_PoolRequestsAreAccepted :
    ringed.ready ∧ ringed.noHoldAsked ∧ ringed.line.state ≠ .held ∧ (9 : Byte) ∉ ringed.pool.tags ∧ ringed.pool.size < 8 ∧
      isWrite .describe = false ∧ ringed.lineAllows = true ∧ ringed.line.owed = [] ∧ ringed.line.state = .running ∧
      ringed.line.keepWaiting = false ∧ ringed.pool.queued = [] ∧ ringed.pool.inFlight = none ∧ ringed.lowestDue = none ∧
      (ringed.entry seven).state ≠ .lost ∧ (holding .off .active).line.state = .off ∧
      (ringed.setTxn (some (onBroadcast .keep .keepAlive .send))).lineAllows = false ∧
      ({ entryIn .active with gateOpen := true } : Entry).gateOpen = true := by decide +kernel

theorem witness_TakeResultsAndCancel :
    base.ready ∧ 1 ≤ (1 : Byte).toNat ∧ (8 : Byte).toNat ≤ 8 ∧ ¬ (1 ≤ (0 : Byte).toNat) ∧ ¬ ((9 : Byte).toNat ≤ 8) ∧
      (5 : Byte) ≠ 0 ∧ (5 : Byte) ∈ [asked .describe].map (fun r => r.tag) ∧ (asked .describe).tag = 5 ∧
      (8 : Byte) ∈ fullPool.completed.map (fun c => c.request.tag) ∧ (9 : Byte) ∉ fullPool.tags := by decide +kernel

theorem witness_FaultRequests :
    base.ready ∧ (pendingKind .lineStuck).ready ∧ faultKindOf 0 = none ∧ faultKindOf 11 = none ∧
      (base.record .lineStuck).alert = .none ∧ ((pendingKind .lineStuck).record .lineStuck).alert = .pending ∧
      ((pendingKind .lineStuck).record .lineStuck).deadline = some 5 ∧
      (base.setRecord .lineStuck { FaultRecord.blank with count := 1, alert := .escalated }).ready ∧ reactionOf 4 = none ∧
      base.reaction .lineStuck = .alert ∧ base.reaction .noAnswer ≠ .hold ∧
      (base.setReaction .noAnswer .hold).reaction .noAnswer = .hold ∧
      (10 ≤ (10 : BitVec 16).toNat ∧ (2550 : BitVec 16).toNat ≤ 2550 ∧ (2550 : BitVec 16).toNat % 10 = 0) ∧
      (¬ (10 ≤ (9 : BitVec 16).toNat) ∧ ¬ ((2560 : BitVec 16).toNat ≤ 2550) ∧ (15 : BitVec 16).toNat % 10 ≠ 0) ∧
      ((32 : Byte).toNat ≤ 32 ∧ 32 < (33 : Byte).toNat) ∧
      ((inLine .running).setTxn (some (onBroadcast .keep .keepAlive .send))).line.txn.isSome = true ∧
      (inLine .held).ready ∧ (inLine .held).noHoldAsked ∧ (inLine .held).line.state = .held := by decide +kernel

theorem witness_InjectedFaultsAreTaken :
    (∀ l ∈ [LineState.off, .running, .held], (inLine l).ready ∧ (inLine l).noHoldAsked ∧ (inLine l).lineRests) ∧
      ((inLine .survey).setTxn (some (onBroadcast .skip .survey .send))).lineRests ∧ base.reaction .noAnswer ≠ .hold := by
  decide +kernel

theorem witness_HeldWithNoAlert : ∀ l : FaultKind, ((inLine .held).record l).alert = .none := by
  intro l; cases l <;> rfl

/-- An ACTIVE node on a RUNNING line with a frame for it. -/
def polling (u : LineUser) (c : LineCommand) (p : LinePhase) : State := ringed.setTxn (some (onFrame c u p))

theorem witness_DeadlinesAndCyclesExpire :
    (deadlineReached 5 (pendingKind .nodeAlarm).now = false ∧
        deadlineReached 5 ((pendingKind .nodeAlarm).passTime 5).now = true) ∧
      (deadlineReached 3 ((pendingKind .nodeAlarm).now + BitVec.ofNat 32 3) = true ∧
        deadlineReached 5 ((pendingKind .nodeAlarm).now + BitVec.ofNat 32 4) = false) ∧
      (polling .poll .poll .wait).start.phase = .running ∧ (polling .poll .poll .wait).noHoldAsked ∧
      (polling .poll .poll .wait).sched.cycle = some { length := 1000, remaining := 0 } ∧
      (polling .poll .poll .wait).line.state = .running ∧
      (polling .poll .poll .wait).line.txn = some (onFrame .poll .poll .wait) := by decide +kernel

/-- A cycle that runs out on a free line. -/
theorem witness_DeadlinesAndCyclesExpire_free :
    (polling .poll .poll .wait).lineAllows = false ∧ ringed.lineAllows = true ∧ ringed.line.owed = [] ∧
      ringed.line.keepWaiting = false ∧ ringed.pool.inFlight = none ∧ ringed.pool.queued = [] ∧
      ringed.line.lastGrant = .pool ∧ (ringed.entry seven).state = .active ∧
      (after .cycleTimerExpiry ringed).line.txn.map (fun x => (x.frame.target, x.frame.data)) =
        some (some seven, [0x01, 49]) ∧
      (after .cycleTimerExpiry (inLine .running)).line.txn = none := by decide +kernel

theorem witness_DeadlinesAndCyclesExpire_none_pending (k : FaultKind) :
    ((polling .poll .poll .wait).record k).alert ≠ .pending := by
  cases k <;> decide +kernel

/-- Two kinds pending, with deadlines at 5 and at 3. -/
def pendingTwo : State :=
  (pendingKind .nodeAlarm).setRecord .lineStuck { (pendingKind .nodeAlarm).record .nodeAlarm with deadline := some 3 }

/-- An expiry commanded sooner passes the milliseconds left, and what falls due on the way comes about. -/
theorem test_expiry_on_the_way :
    ((after (.alertDeadlineExpiry .nodeAlarm) pendingTwo).record .lineStuck).alert = .escalated ∧
      ((after (.alertDeadlineExpiry .nodeAlarm) pendingTwo).record .nodeAlarm).alert = .escalated ∧
      (after (.alertDeadlineExpiry .nodeAlarm) pendingTwo).now = 5 ∧
      ((after (.alertDeadlineExpiry .lineStuck) pendingTwo).record .nodeAlarm).alert = .pending := by decide +kernel

theorem witness_FramesPassOn :
    base.survey.stopping = false ∧ (onFrame .poll .poll .send).frame.target.isSome = true ∧ (onFrame .poll .poll .wait).phase = .wait ∧
      ((onBroadcast .call .survey .send).frame.target = none ∧ (onBroadcast .call .survey .send).frame.command = .call) ∧
      ((onBroadcast .halt .owed .send).frame.command ≠ .call ∧ (onBroadcast .halt .owed .send).user ≠ .survey) ∧
      (onBroadcast .skip .survey .send).frame.command = .skip ∧ (roundIn .skip).phase = .skip := by decide +kernel

theorem witness_UnansweredPollsAreMisses :
    (polling .poll .poll .wait).start.phase = .running ∧
      (polling .poll .poll .wait).line.txn = some (onFrame .poll .poll .wait) ∧ (onFrame .poll .poll .wait).aborted = none ∧
      (onFrame .poll .poll .wait).frame.target = some seven ∧ (polling .poll .poll .wait).noHoldAsked ∧
      ((polling .poll .poll .receive).entry seven).state = .active ∧
      ((polling .poll .poll .wait).entry seven).missCount + 1 < (polling .poll .poll .wait).sched.missLimit ∧
      ({ entryIn .active with missCount := 2 } : Entry).missCount + 1 = base.sched.missLimit ∧
      ((holding .running .paused).entry seven).state = .paused ∧ base.survey.stopping = false ∧
      judgeAnswer .poll (some 4) [0x01, 50, 1] = .broken ∧ judgeAnswer .poll (some 4) (answer [0x01, 50, 1]) = .broken ∧
      (onFrame .poll .poll .send).phase = .send := by decide +kernel

/-- R146, R89: under HOLD the poll's effect is whole before the hold is taken. -/
theorem test_miss_under_hold :
    let t := after .answerWindowExpiry ((polling .poll .poll .wait).setReaction .noAnswer .hold)
    t.line.state = .held ∧ (t.entry seven).missCount = 1 ∧ t.faults.holdAsked = false := by decide +kernel

/-- R89: a broken poll raises its own fault and then the miss. -/
theorem test_broken_poll_is_a_miss :
    let t := after (.answerReceived [0x01, 50, 1]) (polling .poll .poll .receive)
    (t.record .badCheck).count = 1 ∧ (t.record .noAnswer).count = 1 ∧ (t.entry seven).missCount = 1 := by decide +kernel

theorem witness_PollAnswersAreTaken :
    (polling .poll .poll .receive).onLine (onFrame .poll .poll .receive) .receive ∧
      (holding .running .active).ring seven = none ∧
      judgeAnswer .poll (some 4) (answer [0x01, 50, 1, 2, 3, 4]) = .good 0x01 [50, 1, 2, 3, 4] ∧ hasReport 0x01 = true ∧
      judgeAnswer .poll (some 4) (answer [0x02, 49]) = .good 0x02 [49] ∧ hasReport 0x02 = false ∧ alarmFlag 0x02 = true ∧
      (entryIn .active).lastSequence = some 49 ∧ (polling .poll .poll .receive).survey.stopping = false := by decide +kernel

theorem witness_ReportsAreStoredOrRefused :
    (polling .poll .poll .receive).ring seven = some smallRing ∧ (polling .poll .poll .receive).survey.stopping = false ∧
      (entryIn .active).lastSequence ≠ some 50 ∧ memoryLawful filled ∧
      (recordBytes (report 55)).length ≤ ({ smallRing with used := 53 } : Ring).size - ({ smallRing with used := 53 } : Ring).used ∧
      ({ smallRing with used := 54 } : Ring).size - ({ smallRing with used := 54 } : Ring).used <
        (recordBytes (report 55)).length := by unfold memoryLawful; decide +kernel

/-- The ring of 5.10 under KEEP_NEW, with no room for a further record. -/
theorem witness_ReportsAreStoredOrRefused_keepNew :
    (replaced.ring seven).all (fun r =>
      decide (r.size - r.used < (recordBytes (report 59)).length) && decide ((recordBytes (report 59)).length ≤ r.size) &&
        decide (r.policy = .keepNew) && decide (r.used = afterRecords replaced.store.memory r r.count 0)) = true ∧
      (replaced.ring seven).isSome = true := by decide +kernel

/-- A pool request in flight, and its frame on the line. -/
def transacting (work : PoolWork) (c : LineCommand) (p : LinePhase) : State :=
  (polling .pool c p).setPool { base.pool with inFlight := some (asked work) }

theorem witness_PoolAnswersComplete :
    (transacting (.read 1) .get .receive).onLine (onFrame .get .pool .receive) .receive ∧
      (transacting (.read 1) .get .receive).pool.inFlight = some (asked (.read 1)) ∧ (asked (.read 1)).attempts < 3 ∧
      judgeAnswer .get (some 4) (answer [0x00, 1, 2]) = .good 0x00 [1, 2] ∧
      judgeAnswer .unseat (some 4) (answer [0x00]) = .good 0x00 [] ∧
      judgeAnswer .desc (some 4) (answer [0x00, 2, 9, 16]) = .good 0x00 [2, 9, 16] ∧ (descriptorOf [2, 9, 16]).isSome = true ∧
      judgeAnswer .put (some 4) (answer [0x84]) = .good 0x84 [] ∧ judgeAnswer .get (some 4) [0x00, 1, 2] = .broken := by
  decide +kernel

/-- The last attempt of a request. -/
def lastAttempt (work : PoolWork) (c : LineCommand) (p : LinePhase) : State :=
  (polling .pool c p).setPool { base.pool with inFlight := some { asked work with attempts := 3 } }

theorem witness_PoolAttemptsRunOut :
    ((lastAttempt (.read 1) .get .wait).start.phase = .running ∧
        (lastAttempt (.read 1) .get .wait).line.txn = some (onFrame .get .pool .wait) ∧
        (lastAttempt (.read 1) .get .wait).pool.inFlight = some { asked (.read 1) with attempts := 3 } ∧
        (lastAttempt (.read 1) .get .wait).survey.stopping = false ∧ (lastAttempt (.read 1) .get .wait).noHoldAsked ∧
        (asked (.read 1)).attempts < 3 ∧ judgeAnswer .get (some 4) [0x00, 1, 2] = .broken) ∧
      ((lastAttempt (.read 1) .get .space).wireHeld = false ∧ (lastAttempt (.read 1) .get .space).line.owed = [] ∧
        (lastAttempt (.read 1) .get .space).line.keepWaiting = false ∧
        (lastAttempt (.read 1) .get .space).line.state = .running ∧ (holding .survey .active).line.state = .survey) ∧
      (let s := ((holding .running .lost).setTxn (some (onFrame .poll .poll .space))).setPool
          { base.pool with queued := [asked .describe] }
       s.pool.queued = [asked .describe] ∧ s.lowestDue = none ∧ (s.entry (asked .describe).slot).state = .lost ∧
         (base.entry (asked .describe).slot).state = .free) := by decide +kernel

theorem witness_CollisionsAreRaised :
    (base.line.txn = none ∧ base.line.stuck = false) ∧ base.survey.stopping = false ∧
    (transacting (.read 1) .get .send).line.txn = some (onFrame .get .pool .send) ∧
      (onFrame .get .pool .space).spaceHit = false ∧
      ({ onFrame .get .pool .space with spaceHit := true } : Transaction).phase = .space ∧
      ((onBroadcast .halt .owed .send).frame.target = none ∧ (onBroadcast .keep .keepAlive .send).user ≠ .survey) ∧
      (onBroadcast .skip .survey .send).frame = { command := .skip, target := none, data := [] } ∧
      ((onFrame .seat .survey .send).frame.target = some seven ∧ (onFrame .seat .survey .receive).aborted = none) ∧
      ((roundIn .skip).phase = .skip ∧ (roundIn .seat).phase = .seat ∧ (roundIn .describe).chosen = some seven ∧
        (roundIn .clear).phase = .clear ∧ (roundIn .seat).attempts < 3) := by decide +kernel

/-- Slot 7 due, and a request queued for it. -/
def waiting (u : LineUser) : State :=
  ((polling u .poll .space).setDue seven true).setPool { base.pool with queued := [{ asked .describe with attempts := 0 }] }

theorem witness_SpaceEndsFreeTheLine :
    (polling .poll .poll .space).line.txn = some (onFrame .poll .poll .space) ∧ (waiting .poll).lowestDue = some seven ∧
      (waiting .poll).line.lastGrant = .pool ∧ (waiting .poll).pool.inFlight = none ∧
      (waiting .poll).line.keepWaiting = false ∧ (waiting .poll).wireHeld = false ∧ (polling .poll .poll .space).lowestDue = none ∧
      ((1 < owedFrames .halt) ∧ owedFrames .close = 1 ∧ owedFrames .unseatAll = 3) ∧ base.line.owed = [] ∧
      (∀ u ∈ [LineUser.poll, .pool, .keepAlive], u ≠ .owed ∧ u ≠ .survey) := by decide +kernel

/-- The SPACE of the last frame of a send that was owed. -/
def lastSpace (c : OwedCommand) (l : LineState) (rest : List OwedSend) : State :=
  let s := (inLine l).setTxn (some (onBroadcast (owedLineCommand c) .owed .space))
  s.setLine { s.line with owed := { command := c, framesBegun := 3 } :: rest, haltTimer := false }

/-- R37, R78, R137: what the last SPACE of a send brings, and the alternation after a pool transaction. -/
theorem test_last_spaces :
    (after .spaceEnd (lastSpace .halt .held [])).line.haltTimer = true ∧
      (after .spaceEnd (lastSpace .halt .running [⟨.go, 0⟩])).line.txn.map (fun x => x.frame.command) = some .go ∧
      ((after .spaceEnd ((lastSpace .unseatAll .held [⟨.halt, 0⟩]).setEntry seven (entryIn .active))).entry seven).state =
        .free ∧
      (after .spaceEnd (waiting .pool)).line.txn.map (fun x => x.frame.command) = some .poll := by decide +kernel

/-- A line state in a stuck episode that began in a SPACE. -/
def stuckIn (l : LineState) : State :=
  let s := (inLine l).setTxn (some (onFrame .poll .poll .space))
  s.setLine { s.line with stuck := true }

theorem witness_RepeatsAndStuckEpisodes :
    ((inLine .running).line.silence = true ∧ (inLine .running).lineAllows = true ∧ (inLine .held).lineAllows = true) ∧
      ((inLine .running).pool.inFlight = none ∧ (inLine .running).pool.queued = [] ∧
        (inLine .running).lowestDue = none ∧ (waiting .poll).pool.queued ≠ []) ∧
      ((stuckIn .running).wireHeld = true ∧ (stuckIn .held).lineAllows = false ∧ (onFrame .poll .poll .space).phase = .space) ∧
      (inLine .held).line.haltTimer = true ∧
      ((inLine .off).setLine { (inLine .off).line with stuck := true }).line.stuck = true ∧
      ((inLine .off).setLine { (inLine .off).line with dominant := true }).line.dominant = true ∧
      (onBroadcast .call .survey .contest).phase = .contest ∧
      (addOwed .halt base).line.owed = [{ command := .halt, framesBegun := 0 }] ∧
      ((inLine .held).setLine { (inLine .held).line with haltWaiting := true }).line.haltWaiting = true := by decide +kernel

/-- A HALT repeat that falls due in a SPACE waits for its end. -/
theorem test_halt_repeat_waits :
    (after .spaceEnd
        (after .haltRepeat ((inLine .held).setTxn (some (onFrame .poll .poll .space))))).line.txn.map
      (fun x => x.frame.command) = some .halt := by decide +kernel

/-- R114, R36: a further attempt that a stuck episode holds back is made at its end, and no KEEP falls due meanwhile; with
nothing that waits a KEEP does. -/
theorem test_attempt_goes_before_keep :
    let s := after .lineStuck (transacting (.read 1) .get .space)
    (after .keep s).line.keepWaiting = false ∧
      (after .stuckEpisodeEnd (after .keep s)).line.txn.map (fun x => x.user) = some .pool ∧
      (after .stuckEpisodeEnd (after .keep (stuckIn .running))).line.txn.map (fun x => x.user) = some .keepAlive := by
  decide +kernel

/-- A survey with a frame on the line and a round. -/
def surveying (t : Transaction) (p : RoundPhase) (st : EntryState) : State :=
  ((holding .survey st).setTxn (some t)).setRound (some (roundIn p))

/-- A survey in its contest. -/
def contesting : State := surveying (onBroadcast .call .survey .contest) .contest .lost

theorem witness_ContestReadingsAndSlotChoice :
    contesting.start.phase = .running ∧ contesting.line.txn = some (onBroadcast .call .survey .contest) ∧
      contesting.survey.round = some (roundIn .contest) ∧ contesting.survey.stopping = false ∧ contesting.noHoldAsked ∧
      contesting.contestReading (pulled 5) = 5 ∧ contesting.contestHit 0 (pulled 5) = false ∧
      contesting.contestHit 1 0 = true ∧ (5 : BitVec 56) ≠ 0 ∧ readingIdentity 5 = 0 ∧ nodeA ≠ 0 ∧
      contesting.contestReading (pulled (contestWord nodeA)) = contestWord nodeA ∧
      contesting.slotChoice nodeA = some seven ∧ base.slotChoice nodeA = some 0 ∧
      ({ base with dir := { base.dir with entries := allCells 32 (entryIn .active) } } : State).slotChoice 5 = none ∧
      (bound 5).slotBound 5 = none ∧
      ({ bound 5 with dir := { (bound 5).dir with entries := base.dir.entries } } : State).slotChoice 5 = some seven := by
  decide +kernel

theorem witness_SeatAttemptsAreJudged :
    (surveying (onFrame .seat .survey .receive) .seat .lost).onLine (onFrame .seat .survey .receive) .receive ∧
      (surveying (onFrame .seat .survey .wait) .clear .lost).onLine (onFrame .seat .survey .wait) .wait ∧
      (surveying (onFrame .seat .survey .receive) .seat .lost).survey.stopping = false ∧
      (roundIn .seat).chosen = some seven ∧ (roundIn .seat).closing = none ∧
      (roundIn .seat).reading = some (.clean nodeA (crc8 (identityBytes nodeA))) ∧
      judgeAnswer .seat none (answer [0x00, crc8 (identityBytes nodeA)]) = .good 0x00 [crc8 (identityBytes nodeA)] ∧
      judgeAnswer .seat none (answer [0x81]) = .good 0x81 [] ∧ judgeAnswer .seat none [0x00, 1] = .broken ∧
      (surveying (onFrame .seat .survey .receive) .clear .lost).onLine (onFrame .seat .survey .receive) .receive ∧
      ((holding .survey .undescribed).entry seven).state = .undescribed ∧
      (holding .survey .undescribed).surveyReplyOwed = false ∧
      ((holding .survey .undescribed).wireHeld = false ∧ (holding .survey .undescribed).line.owed = [] ∧
        (holding .survey .undescribed).pool.inFlight = none) := by decide +kernel

theorem witness_DescribePhasesEnd :
    (surveying (onFrame .desc .survey .receive) .describe .undescribed).onLine (onFrame .desc .survey .receive) .receive ∧
      (onFrame .desc .survey .receive).frame = { command := .desc, target := some seven, data := [] } ∧
      ((surveying (onFrame .desc .survey .receive) .describe .undescribed).entry seven).state = .undescribed ∧
      (surveying (onFrame .desc .survey .receive) .describe .undescribed).survey.stopping = false ∧
      judgeAnswer .desc none (answer [0x00, 2, 9, 16]) = .good 0x00 [2, 9, 16] ∧ (descriptorOf [2, 9, 16]).isSome = true ∧
      judgeAnswer .desc none (answer [0x81]) = .good 0x81 [] ∧ judgeAnswer .desc none [0x00, 1] = .broken ∧
      (surveying (onFrame .desc .survey .wait) .describe .undescribed).onLine (onFrame .desc .survey .wait) .wait := by
  decide +kernel

/-- A round that waits for its last SPACE, with so many failures in a row and rounds run. -/
def closingRound (e : RoundEnd) (failures rounds : Nat) : State :=
  (holding .survey .lost).setTxn (some (onFrame .seat .survey .space)) |>.setSurvey
    { record := { SurveyRecord.blank with state := .running, roundsRun := rounds }
      round := some { roundIn .seat with closing := some e }, failures, stopping := false }

theorem witness_RoundsAndSurveysEnd :
    ((surveying (onBroadcast .call .survey .send) .contest .lost).line.txn = some (onBroadcast .call .survey .send) ∧
        (onBroadcast .call .survey .send).frame = { command := .call, target := none, data := [] }) ∧
      ((closingRound .failed 2 7).survey.failures + 1 = 3 ∧ (closingRound .served 2 64).survey.failures + 0 < 3 ∧
        (closingRound .served 2 64).survey.record.roundsRun = 64 ∧
        (closingRound .failed 1 63).survey.record.roundsRun < 64 ∧ (closingRound .failed 1 63).wireHeld = false ∧
        (closingRound .failed 1 63).line.owed = [] ∧ (closingRound .failed 1 63).pool.inFlight = none ∧
        (closingRound .failed 1 63).line.state = .survey ∧ (closingRound .failed 1 63).noHoldAsked) ∧
      ((roundIn .skip).phase = .skip ∧ (roundIn .skip).closing = none) ∧
      (contesting.contestReading 0 = 0 ∧ contesting.contestHit 0 0 = false ∧ contesting.link.clearMayFollow = false) := by decide +kernel

theorem test_round_endings :
    (after .spaceEnd (closingRound .failed 2 64)).survey.record.state = .failed ∧
      (after .spaceEnd (closingRound .served 2 64)).survey.record.state = .limit ∧
      (after .spaceEnd (closingRound .failed 1 63)).survey.record.state = .running ∧
      (after (.contestEnd 0 0) contesting).survey.record.state = .complete := by decide +kernel

/-- A survey in its contest that a hold has told to stop. -/
def stopping : State := contesting.setSurvey { contesting.survey with stopping := true }

theorem witness_StoppedWorkIsNotJudged :
    (let x (p : LinePhase) : Transaction := { onFrame .seat .survey .receive with aborted := some p }
     (stopping.setTxn (some (x .wait))).line.txn = some (x .wait) ∧ (x .wait).phase = .receive ∧
      (x .wait).aborted.isSome = true ∧ (x .wait).aborted ≠ some .receive ∧ (x .receive).aborted = some .receive) ∧
      stopping.survey.stopping = true ∧ stopping.line.txn = some (onBroadcast .call .survey .contest) ∧
      stopping.noHoldAsked := by decide +kernel

/-- R34: an abort taken in WAIT reads nothing of the answer, so a collision in it raises nothing; one taken in RECEIVE
leaves the collision its fault. -/
theorem test_unread_answer :
    ((after .collision (after .answerStart (after .holdLine (polling .poll .poll .wait)))).record .collision).count = 0 ∧
      ((after .collision (after .holdLine (polling .poll .poll .receive))).record .collision).count = 1 := by
  decide +kernel

/-- A hold in the contest, and the end of the contest 9 ms later. -/
def heldInContest : State := after (.contestEnd 0 (pulled (contestWord nodeA))) ((after .holdLine contesting).passTime 9)

/-- R63, R64: after a hold in the contest the survey runs on to the 56th slot, and its reading is not judged. -/
theorem test_hold_in_the_contest :
    ((after .holdLine contesting).line.state = .held ∧ (after .holdLine contesting).survey.record.state = .running ∧
        (after .holdLine contesting).link.surveyDone = false) ∧
      heldInContest.survey.record.state = .aborted ∧ heldInContest.survey.record.finish = some 9 ∧
      heldInContest.survey.round = none ∧ heldInContest.link.surveyDone = true ∧
      (heldInContest.entry seven).state = .lost := by decide +kernel

/-- A survey stopped in its contest, and another one accepted before the contest has ended. -/
def surveyAgain : State :=
  after .survey ((after .startLine ((after .stopLine contesting).setLink base.link)).setLink base.link)

/-- R63: the new survey waits for the line before its first CALL, so a hold stops it at once. -/
theorem test_new_survey_stops_at_once :
    surveyAgain.line.txn = some (onBroadcast .call .survey .contest) ∧ surveyAgain.survey.record.state = .running ∧
      surveyAgain.survey.round = none ∧
      (after .holdLine (surveyAgain.setLink base.link)).survey.record.state = .aborted ∧
      (after .holdLine (surveyAgain.setLink base.link)).survey.stopping = false := by decide +kernel

theorem witness_StopHoldAndReset :
    contesting.ready ∧ contesting.line.state = .survey ∧ contesting.surveyFrameRuns = true ∧
      (inLine .survey).surveyFrameRuns = false ∧ contesting.link.clearMayFollow = false ∧
      (polling .poll .poll .wait).line.txn = some (onFrame .poll .poll .wait) ∧
      (stopping.setLine { stopping.line with state := .running }).survey.stopping = true := by decide +kernel

theorem witness_NodesFollowTheProtocol :
    (nodeIn 1 nodeA (.seated seven)).leaving = false ∧ (addressed .unseat seven).target = some seven ∧
      itemOf 3 (nodeIn 1 nodeA (.seated seven)) = some ⟨3, [1], true⟩ ∧
      putStatus 4 [9] (nodeIn 1 nodeA (.seated seven)) ≠ 0x00 ∧
      itemOf 4 (nodeIn 1 nodeA (.seated seven)) = none ∧
      ({ nodeIn 1 nodeA (.seated seven) with held := numberReports 255 [[1], [2]] } : Node).held =
        [⟨255, [1]⟩, ⟨0, [2]⟩] ∧ lastNumber 255 [[1], [2]] = 0 ∧ contends (nodeIn 1 nodeA .contending) = true ∧
      contends (nodeIn 1 nodeA .unseated) = false := by decide +kernel

theorem witness_TheWiredLine :
    (polling .poll .poll .send).line.txn = some (onFrame .poll .poll .send) ∧
      (lineFrameBytes (onFrame .poll .poll .send).frame)[0]? = some 0x23 ∧
      (∃ n ∈ threeNodes, contends n = true) ∧ (charLevels 0x05).dropLast.getLast? = some .dominant := by decide +kernel

theorem witness_PinsShowAlertsAndSources :
    FullReset State.reset ∧ base.reaction .lineStuck = .alert ∧ (base.record .lineStuck).alert = .none ∧
      (pendingKind .lineStuck).ready ∧ (∀ l : FaultKind, l ≠ .lineStuck → ((pendingKind .lineStuck).record l).alert = .none) := by
  refine ⟨?_, by decide +kernel, by decide +kernel, by decide +kernel, fun l h => ?_⟩
  · exact ⟨rfl, rfl, rfl, rfl, rfl, rfl, ⟨rfl, rfl, rfl⟩, rfl, rfl, rfl, rfl, rfl, rfl, rfl, rfl, rfl, ⟨rfl, rfl, rfl⟩,
      ⟨rfl, rfl, rfl⟩, ⟨rfl, rfl⟩⟩
  · cases l <;> first | rfl | exact absurd rfl h

theorem witness_OccurrencesAreRecorded :
    (base.record .nodeAlarm).first = none ∧ ((pendingKind .nodeAlarm).record .nodeAlarm).first ≠ none ∧
      base.reaction .nodeAlarm = .alert ∧ (base.record .nodeAlarm).alert = .none ∧ base.reaction .noAnswer ≠ .alert := by
  decide +kernel

/-- A part in a line state that has been asked for a hold. -/
def holdAsked (l : LineState) : State := { inLine l with faults := { (inLine l).faults with holdAsked := true } }

theorem witness_OccurrencesAreRecorded_hold :
    (holdAsked .held).faults.holdAsked = true ∧ (holdAsked .held).line.state = .held ∧
      (holdAsked .off).line.state ≠ .held ∧ (holdAsked .survey).line.state = .survey ∧
      (holdAsked .survey).surveyFrameRuns = false ∧ contesting.surveyFrameRuns = true ∧ base.faults.holdAsked = false := by
  decide +kernel

/-! ## States of which the laws hold, and which step -/

theorem witness_laws_step : ∃ t, step ringed = .next t := ⟨_, rfl⟩

theorem witness_PoolAndOwedSendsStayLawful_pool : poolLawful { base with pool := fullPool } := by
  unfold poolLawful; decide +kernel

theorem witness_DueSetAndMissesStayLawful :
    dueLawful (waiting .poll) ∧ missesLawful (waiting .poll) := by
  unfold dueLawful missesLawful; decide +kernel

theorem witness_ReportMemoryIsKept : memoryLawful replaced := by unfold memoryLawful; decide +kernel

theorem witness_PoolAndOwedSendsStayLawful :
    owedLawful (addOwed .unseatAll (addOwed .go (addOwed .halt (addOwed .close base)))) := by
  unfold owedLawful; decide +kernel

theorem witness_LineTimersAndGates :
    lineLawful (stopping.setLine { stopping.line with state := .off }) ∧ lineLawful ringed ∧ ringed.noHoldAsked ∧ lineLawful (inLine .held) ∧ gatesShutWhenHeld (inLine .held) := by
  unfold lineLawful gatesShutWhenHeld; decide +kernel

theorem witness_FaultTableStaysLawful : faultTableLawful (pendingKind .nodeAlarm) := by
  intro k; cases k <;> (unfold recordLawful; decide +kernel)

theorem witness_EntriesAndRingsStayLawful_work : workLawful (transacting .release .unseat .receive) := by
  intro t ht _ _
  have e : onFrame .unseat .pool .receive = t := Option.some.inj ht
  subst e
  exact ⟨fun _ => ⟨asked .release, rfl, rfl⟩, fun r h => absurd h (by decide +kernel)⟩

theorem witness_EntriesAndRingsStayLawful : directoryLawful ringed ∧ ringsLawful ringed ∧ workLawful ringed := by
  have one : ∀ i : Slot, i = seven ∨ ringed.entry i = Entry.blank ∧ ringed.ring i = none := by decide +kernel
  refine ⟨fun i => ?_, fun i r h => ?_, fun t h => by cases h⟩
  · rcases one i with rfl | ⟨h, _⟩
    · refine ⟨by decide +kernel, by decide +kernel, by decide +kernel, fun d h => ?_⟩
      have e : valve = d := Option.some.inj h
      subst e
      exact ⟨by decide +kernel, by decide +kernel, by decide +kernel⟩
    · rw [h]
      exact ⟨fun _ => rfl, fun h => absurd rfl h, by decide +kernel, fun d h => absurd h (by simp [Entry.blank])⟩
  · rcases one i with rfl | ⟨_, e⟩
    · have e : smallRing = r := Option.some.inj h
      subst e
      exact ⟨by unfold ringLawful; decide +kernel, by decide +kernel, by decide +kernel⟩
    · rw [e] at h; cases h

theorem witness_IdentitiesAndBindingsStayApart : identitiesLawful (bound nodeA) ∧ bindingsLawful (bound nodeA) := by
  have one : ∀ i : Slot, i = seven ∨ ((bound nodeA).entry i).state = .free ∧ cell (bound nodeA).dir.bindings i = none := by
    decide +kernel
  refine ⟨⟨fun i j hi hj _ => ?_, fun r i x c hr _ _ _ => by cases hr⟩, fun i j x hi hj => ?_⟩
  · rcases one i with rfl | ⟨h, _⟩
    · rcases one j with rfl | ⟨h, _⟩
      · rfl
      · exact absurd h hj
    · exact absurd h hi
  · rcases one i with rfl | ⟨_, h⟩
    · rcases one j with rfl | ⟨_, h⟩
      · rfl
      · rw [h] at hj; cases hj
    · rw [h] at hi; cases hi

end Sys2Proof.Tests
end

