-- ==== Sys2Proof/Proofs/NodeDirectory.lean ====
section
/-! PROOFS. The directory requests PAUSE, ACTIVATE (R10), UNBIND and LIST_BINDINGS (R20): what each owner decides in each
case, what the binding list holds, and the obligations O19 and O22. -/

namespace Sys2Proof.Machine

variable {s : State}

/-! ## The slot check -/

/-- The slot check takes a slot's own number. -/
@[simp] theorem slotOf_slotByte (i : Slot) : slotOf (slotByte i) = some i := by
  have hbyte : (slotByte i).toNat = i.val + 1 := by simp [slotByte]; omega
  have hrange : 1 ≤ (slotByte i).toNat ∧ (slotByte i).toNat ≤ 32 := by omega
  rw [slotOf, dif_pos hrange]
  simp [hbyte]

@[simp] theorem withSlot_slotByte (i : Slot) (s : State) (k : Slot → State × Status × List Byte) :
    withSlot (slotByte i) s k = k i := by
  simp [withSlot]

theorem withSlot_none {slot : Byte} (h : slotOf slot = none) (s : State) (k : Slot → State × Status × List Byte) :
    withSlot slot s k = refuse s .badSlot := by
  simp [withSlot, h]

/-! ## A request that its owner decides: the reply of an acceptance and of a refusal -/

/-- The owner accepts: its effect, and OK with its results. -/
theorem request_accepted {code : Byte} {owner : State → State × Status × List Byte} {t : State} {results : List Byte}
    (hs : s.ready) (h : owner s = accept t results) : request code false owner s = t.replied code .ok results := by
  rw [request_ready code false owner hs, h, accept]

/-- The owner refuses: the reply is all that changes. -/
theorem request_refused {code : Byte} {owner : State → State × Status × List Byte} {status : Status}
    (hs : s.ready) (h : owner s = refuse s status) : request code false owner s = s.replied code status [] := by
  rw [request_ready code false owner hs, h, refuse]

/-! ## The instructions are these requests -/

theorem exec_pause (slot : Byte) (s : State) :
    exec (.pause slot) s = .next (request 0x23 false (ownPause slot) s) := rfl

theorem exec_activate (slot : Byte) (s : State) :
    exec (.activate slot) s = .next (request 0x24 false (ownActivate slot) s) := rfl

theorem exec_unbind (slot : Byte) (s : State) :
    exec (.unbind slot) s = .next (request 0x2A false (ownUnbind slot) s) := rfl

theorem exec_listBindings (s : State) :
    exec .listBindings s = .next (request 0x2B false ownListBindings s) := rfl

/-! ## PAUSE and ACTIVATE, one equation per entry state (R10) -/

variable {i : Slot}

theorem ownPause_active (h : (s.entry i).state = .active) :
    ownPause (slotByte i) s =
      accept ((s.setEntry i { s.entry i with state := .paused, missCount := 0 }).setDue i false) [] := by
  simp [ownPause, h]

theorem ownPause_paused (h : (s.entry i).state = .paused) : ownPause (slotByte i) s = accept s [] := by
  simp [ownPause, h]

theorem ownPause_wrongState (h : (s.entry i).state = .undescribed ∨ (s.entry i).state = .lost) :
    ownPause (slotByte i) s = refuse s .wrongState := by
  rcases h with h | h <;> simp [ownPause, h]

theorem ownPause_free (h : (s.entry i).state = .free) : ownPause (slotByte i) s = refuse s .noNode := by
  simp [ownPause, h]

theorem ownActivate_paused (h : (s.entry i).state = .paused) :
    ownActivate (slotByte i) s = accept (s.setEntry i { s.entry i with state := .active }) [] := by
  simp [ownActivate, h]

theorem ownActivate_active (h : (s.entry i).state = .active) : ownActivate (slotByte i) s = accept s [] := by
  simp [ownActivate, h]

theorem ownActivate_wrongState (h : (s.entry i).state = .undescribed ∨ (s.entry i).state = .lost) :
    ownActivate (slotByte i) s = refuse s .wrongState := by
  rcases h with h | h <;> simp [ownActivate, h]

theorem ownActivate_free (h : (s.entry i).state = .free) : ownActivate (slotByte i) s = refuse s .noNode := by
  simp [ownActivate, h]

/-- R74: a cycle start puts every ACTIVE slot into the due set. -/
theorem isDue_cycleStart_of_active (h : (s.entry i).state = .active) : (cycleStart s).isDue i = true := by
  simp [isDue_cycleStart, h]

/-! ## UNBIND (R20) -/

theorem ownUnbind_badSlot {slot : Byte} (h : slotOf slot = none) : ownUnbind slot s = refuse s .badSlot :=
  withSlot_none h s _

theorem ownUnbind_notBound (h : cell s.dir.bindings i = none) : ownUnbind (slotByte i) s = refuse s .notBound := by
  simp [ownUnbind, h]

theorem ownUnbind_bound {x : Identity} (h : cell s.dir.bindings i = some x) :
    ownUnbind (slotByte i) s =
      accept { s with dir := { s.dir with bindings := putCell s.dir.bindings i none } } [] := by
  simp [ownUnbind, h]

/-- R54: what step 2 of the slot choice finds for an identity is bound to it. -/
theorem bound_of_slotBound {x : Identity} (h : s.slotBound x = some i) : cell s.dir.bindings i = some x := by
  have hfound := List.find?_some h
  rw [Bool.and_eq_true, decide_eq_true_eq, decide_eq_true_eq] at hfound
  exact hfound.2

/-! ## The binding list (R18, R20) -/

theorem slots_pairwise_lt : slots.Pairwise (· < ·) := by decide

/-- The binding list holds exactly the bindings. -/
theorem mem_bindingList {x : Identity} : (i, x) ∈ s.bindingList ↔ cell s.dir.bindings i = some x := by
  simp only [State.bindingList, List.mem_filterMap, Option.map_eq_some_iff, Prod.mk.injEq]
  constructor
  · rintro ⟨j, _, y, hbound, rfl, rfl⟩
    exact hbound
  · intro hbound
    exact ⟨i, mem_slots i, x, hbound, rfl, rfl⟩

/-- One binding at most for each of the 32 slots. -/
theorem bindingList_length_le (s : State) : s.bindingList.length ≤ 32 :=
  List.length_filterMap_le _ slots

/-- The binding list is in ascending slot order: it keeps the order in which it runs through the slots. -/
theorem bindingList_pairwise (s : State) : s.bindingList.Pairwise (fun a b => a.1 < b.1) := by
  refine List.pairwise_filterMap.2 (slots_pairwise_lt.imp ?_)
  intro i j hlt a ha b hb
  obtain ⟨_, _, rfl⟩ := Option.map_eq_some_iff.1 ha
  obtain ⟨_, _, rfl⟩ := Option.map_eq_some_iff.1 hb
  exact hlt

end Sys2Proof.Machine

namespace Sys2Proof.Proofs

open Sys2Proof.Machine

/-- Settles O19: each entry state's decision of the owner, carried through the request, and the due set after a cycle
start. -/
theorem pauseAndActivateDecide : Obligations.PauseAndActivateDecide := by
  intro i s hs
  simp only [exec_pause, exec_activate, Host.Outcome.next.injEq]
  refine ⟨?pauseActive, ?pausePaused, ?pauseWrong, ?pauseFree, ?activatePaused, ?activateActive, ?activateWrong,
    ?activateFree, ?due⟩
  case pauseActive => exact fun h => request_accepted hs (ownPause_active h)
  case pausePaused => exact fun h => request_accepted hs (ownPause_paused h)
  case pauseWrong => exact fun h => request_refused hs (ownPause_wrongState h)
  case pauseFree => exact fun h => request_refused hs (ownPause_free h)
  case activatePaused => exact fun h => request_accepted hs (ownActivate_paused h)
  case activateActive => exact fun h => request_accepted hs (ownActivate_active h)
  case activateWrong => exact fun h => request_refused hs (ownActivate_wrongState h)
  case activateFree => exact fun h => request_refused hs (ownActivate_free h)
  case due => exact fun _ h => isDue_cycleStart_of_active h

/-- Settles O22: UNBIND by the slot check and the slot's binding, the removed binding unseen by a slot choice because such
a choice finds only what is bound, and the list by its membership, length and order. -/
theorem unbindAndListBindings : Obligations.UnbindAndListBindings := by
  intro s hs
  simp only [exec_unbind, exec_listBindings, Host.Outcome.next.injEq]
  refine ⟨?badSlot, ?notBound, ?bound, request_accepted hs rfl, fun _ _ => mem_bindingList, bindingList_length_le s,
    bindingList_pairwise s⟩
  case badSlot => exact fun _ h => request_refused hs (ownUnbind_badSlot h)
  case notBound => exact fun _ h => request_refused hs (ownUnbind_notBound h)
  case bound =>
    intro i x h
    refine ⟨_, request_accepted hs (ownUnbind_bound h), rfl, fun y hchosen => ?_⟩
    have hbound := bound_of_slotBound hchosen
    simp only [replied_dir, cell_putCell_self, reduceCtorEq] at hbound

end Sys2Proof.Proofs
end

