-- ==== Sys2Proof/Proofs/FaultRecordAndAck.lean ====
section
/-! PROOFS. FAULT_RECORD (R155) and FAULT_ACK (R150): the kind check, what each owner decides in each alert state, the
alert that the next occurrence raises, the line that resumes without one, and the obligations O32 and O33. -/

namespace Sys2Proof.Machine

variable {s : State} {k : FaultKind}

/-! ## The kind check (R140) -/

theorem mem_faultKinds (k : FaultKind) : k ∈ faultKinds := by
  cases k <;> decide

/-- The kind check takes a kind's own code. -/
@[simp] theorem faultKindOf_faultKindCode (k : FaultKind) : faultKindOf (faultKindCode k) = some k := by
  cases k <;> rfl

@[simp] theorem withKind_faultKindCode (k : FaultKind) (s : State) (f : FaultKind → State × Status × List Byte) :
    withKind (faultKindCode k) s f = f k := by
  simp [withKind]

theorem withKind_none {kind : Byte} (h : faultKindOf kind = none) (s : State)
    (f : FaultKind → State × Status × List Byte) : withKind kind s f = refuse s .badValue := by
  simp [withKind, h]

/-! ## The instructions are these requests -/

theorem exec_faultRecord (kind : Byte) (s : State) :
    exec (.faultRecord kind) s = .next (request 0x51 false (ownFaultRecord kind) s) := rfl

theorem exec_faultAck (kind : Byte) (s : State) :
    exec (.faultAck kind) s = .next (request 0x52 false (ownFaultAck kind) s) := rfl

theorem exec_resumeLine (s : State) :
    exec .resumeLine s = .next (request 0x13 false ownResumeLine s) := rfl

/-! ## FAULT_RECORD (R155) -/

theorem ownFaultRecord_badValue {kind : Byte} (h : faultKindOf kind = none) :
    ownFaultRecord kind s = refuse s .badValue :=
  withKind_none h s _

theorem ownFaultRecord_kind (k : FaultKind) (s : State) :
    ownFaultRecord (faultKindCode k) s = accept s (faultRecordBytes (s.reaction k) (s.record k)) :=
  withKind_faultKindCode k s _

/-- R142: in a lawful table the deadline is there exactly while the kind is PENDING. -/
theorem deadline_isSome_iff_pending (h : faultTableLawful s) (k : FaultKind) :
    (s.record k).deadline.isSome ↔ (s.record k).alert = .pending := by
  obtain ⟨_, _, _, hdeadline⟩ := h k
  exact hdeadline

/-! ## FAULT_ACK, one equation per alert state (R150) -/

theorem ownFaultAck_badValue {kind : Byte} (h : faultKindOf kind = none) : ownFaultAck kind s = refuse s .badValue :=
  withKind_none h s _

theorem ownFaultAck_none (h : (s.record k).alert = .none) :
    ownFaultAck (faultKindCode k) s = refuse s .notPending := by
  simp [ownFaultAck, h]

theorem ownFaultAck_pending (h : (s.record k).alert = .pending) :
    ownFaultAck (faultKindCode k) s = accept (s.setRecord k (acknowledged (s.record k))) [0x00] := by
  simp [ownFaultAck, h, flagByte]

theorem ownFaultAck_escalated (h : (s.record k).alert = .escalated) :
    ownFaultAck (faultKindCode k) s = accept (s.setRecord k (acknowledged (s.record k))) [0x01] := by
  simp [ownFaultAck, h, flagByte]

/-! ## The next occurrence under ALERT (R145) -/

/-- Taking an occurrence leaves the alert state to the reaction. -/
@[simp] theorem recordTaking_alert (r : FaultRecord) (o : Occurrence) : (recordTaking r o).alert = r.alert := rfl

theorem recordAlerted_of_none {r : FaultRecord} (h : r.alert = .none) (d : Timestamp) :
    recordAlerted r d = { r with alert := .pending, deadline := some d } := by
  simp [recordAlerted, h]

/-- A kind in NONE whose reaction is ALERT becomes PENDING, with a deadline one acknowledgement window ahead. -/
theorem occur_alerts (hnone : (s.record k).alert = .none) (halert : s.reaction k = .alert) (slot detail : Byte)
    (injected : Bool) :
    ((occur k slot detail injected s).record k).alert = .pending ∧
      ((occur k slot detail injected s).record k).deadline = some (s.now + s.ackSpan) := by
  have hrecord : (occur k slot detail injected s).record k =
      { recordTaking (s.record k) { slot, timestamp := s.now, detail, injected } with
        alert := .pending
        deadline := some (s.now + s.ackSpan) } := by
    rw [occur_record_self, recordAfter, if_pos halert]
    exact recordAlerted_of_none (r := recordTaking _ _) hnone _
  rw [hrecord]
  exact ⟨rfl, rfl⟩

/-! ## The line resumes once no kind is in alert (R134, R149) -/

/-- R149: ALERT# is negated exactly while every kind is in NONE. -/
theorem alertPin_eq_false_iff : s.alertPin = false ↔ ∀ k : FaultKind, (s.record k).alert = .none := by
  simp [State.alertPin, State.inAlert, mem_faultKinds]

/-- R128: while sends are owed, the next frame is one of the head's, or none begins. -/
theorem service_of_owed {o : OwedSend} {rest : List OwedSend} (h : s.line.owed = o :: rest) :
    service s = s ∨ service s = beginOwed o rest s := by
  unfold service
  split
  · right
    rw [h]
  · exact Or.inl rfl

@[simp] theorem beginOwed_state (o : OwedSend) (rest : List OwedSend) (s : State) :
    (beginOwed o rest s).line.state = s.line.state := rfl

theorem service_state_of_owed {o : OwedSend} {rest : List OwedSend} (h : s.line.owed = o :: rest) :
    (service s).line.state = s.line.state := by
  rcases service_of_owed h with hs | hs <;> simp [hs]

theorem addOwed_owed_ne_nil (c : OwedCommand) (s : State) : (addOwed c s).line.owed ≠ [] := by
  simp [addOwed_owed]

@[simp] theorem enterRunning_state (s : State) : (enterRunning s).line.state = .running := rfl
@[simp] theorem enterRunning_owed (s : State) : (enterRunning s).line.owed = s.line.owed := rfl

theorem ownResumeLine_held (hheld : s.line.state = .held) (hpin : s.alertPin = false) :
    ownResumeLine s = accept (settle (enterRunning (addOwed .go s))) [] := by
  simp [ownResumeLine, hheld, hpin]

/-- R134: the resumed line is in RUNNING; the GO that it owes is all that can begin at once. -/
theorem settle_resumed_state (h : s.noHoldAsked) :
    (settle (enterRunning (addOwed .go s))).line.state = .running := by
  have hasked : (enterRunning (addOwed .go s)).noHoldAsked := h
  obtain ⟨o, rest, howed⟩ := List.exists_cons_of_ne_nil (addOwed_owed_ne_nil .go s)
  rw [← enterRunning_owed] at howed
  rw [settle, takeHold_none hasked, service_state_of_owed howed, enterRunning_state]

end Sys2Proof.Machine

namespace Sys2Proof.Proofs

open Sys2Proof.Machine

/-- Settles O32: the kind check, the record's bytes from the owner, and the law of the fault table for the deadline. -/
theorem faultRecordReports : Obligations.FaultRecordReports := by
  intro s hs
  simp only [exec_faultRecord, Host.Outcome.next.injEq]
  refine ⟨?badValue, ?record, deadline_isSome_iff_pending⟩
  case badValue => exact fun _ h => request_refused hs (ownFaultRecord_badValue h)
  case record => exact fun k => request_accepted hs (ownFaultRecord_kind k s)

/-- Settles O33: each alert state's decision of the owner, carried through the request; the record that an occurrence
leaves under ALERT; and RESUME_LINE in HELD with ALERT# negated. -/
theorem faultAckDecides : Obligations.FaultAckDecides := by
  intro k s hs
  simp only [exec_faultAck, exec_resumeLine, Host.Outcome.next.injEq]
  refine ⟨?badValue, ?none, ?pending, ?escalated, ?next, ?resume⟩
  case badValue => exact fun _ h => request_refused hs (ownFaultAck_badValue h)
  case none => exact fun h => request_refused hs (ownFaultAck_none h)
  case pending => exact fun h => request_accepted hs (ownFaultAck_pending h)
  case escalated => exact fun h => request_accepted hs (ownFaultAck_escalated h)
  case next => exact fun slot detail _ hnone halert => occur_alerts hnone halert slot detail false
  case resume =>
    intro u hu hasked hheld hnone
    have howner := ownResumeLine_held hheld (alertPin_eq_false_iff.2 hnone)
    exact ⟨_, request_accepted hu howner, settle_resumed_state hasked, rfl⟩

end Sys2Proof.Proofs
end

