-- ==== Sys2Proof/Proofs/BadCheckReject.lean ====
section
/-! PROOFS. A frame with a bad check (R161): what the judgement makes of it, the reject reply that is then owed, and the
obligation O6. -/

namespace Sys2Proof.Machine

variable {s : State}

/-! ## The frame reaches the receiver -/

theorem exec_requestFrame (chars : List Byte) (s : State) :
    exec (.requestFrame chars) s = .next (if s.live then arrive chars s else s) := rfl

/-- R159: once the start has ended the receiver takes the characters of a frame. -/
theorem exec_requestFrame_running (chars : List Byte) (h : s.start.phase = .running) :
    exec (.requestFrame chars) s = .next (arrive chars s) := by
  rw [exec_requestFrame, if_pos (live_of_running h)]

/-! ## The judgement of a bad check (R161) -/

/-- R161: the check is judged before the body is read. -/
theorem judgeFrame_badCheck {body : List Byte} {high low : Byte}
    (h : crc16 (BitVec.ofNat 8 body.length :: body) ≠ word16 high low) : judgeFrame body high low s = rejectFrame s :=
  if_neg h

/-- The part gives its own reply where none is owed. -/
theorem answerFrame_unowed {code : Byte} {status : Status} (h : s.link.reply = none) :
    answerFrame code status s = s.replied code status [] := by
  simp [answerFrame, h]

/-- R161: the count and the reject reply are all that a rejected frame changes. -/
theorem rejectFrame_unowed (h : s.link.reply = none) :
    rejectFrame s =
      { s with link := { s.link with check := satAdd s.link.check 1, reply := some [0xFF, 0x01] } } := by
  have hunowed : (s.setLink { s.link with check := satAdd s.link.check 1 }).link.reply = none := h
  rw [rejectFrame, answerFrame_unowed hunowed]
  rfl

/-! ## Whole frames met in HUNT -/

/-- R161: a whole frame whose check does not match is rejected. -/
theorem exec_requestFrame_badCheck {body : List Byte} {high low : Byte} (hlo : 1 ≤ body.length)
    (hhi : body.length ≤ 240) (hs : s.listens) (hh : s.hunts)
    (hcrc : crc16 (BitVec.ofNat 8 body.length :: body) ≠ word16 high low) :
    exec (.requestFrame (BitVec.ofNat 8 body.length :: body ++ [high, low])) s = .next (rejectFrame s) := by
  obtain ⟨hrunning, hunowed⟩ := hs
  rw [exec_requestFrame_running _ hrunning, arrive_whole body high low hlo hhi hh hunowed, judgeFrame_badCheck hcrc]

/-- R162: a whole frame that begins while a reply is owed changes nothing but the overrun flag. -/
theorem exec_requestFrame_owed {chars : List Byte} (hw : wholeFrame chars = true) (hrunning : s.start.phase = .running)
    (hh : s.hunts) (howed : s.link.reply.isSome = true) : exec (.requestFrame chars) s = .next s.overrunning := by
  rw [exec_requestFrame_running _ hrunning, arrive_whole_owed chars hw hh howed]

end Sys2Proof.Machine

namespace Sys2Proof.Proofs

open Sys2Proof.Machine

/-- Settles O6: the receiver hands the whole frame to the judgement, whose check fails before the body is read; the reject
leaves the part running with its receiver in HUNT and a reply owed, so that the next whole frame is an overrun frame. -/
theorem badCheckIsRejected : Obligations.BadCheckIsRejected := by
  intro body high low s hlo hhi ⟨hrunning, hunowed⟩ hh hcrc
  refine ⟨_, ?rejected, rfl, ?overrun⟩
  case rejected =>
    rw [exec_requestFrame_badCheck hlo hhi ⟨hrunning, hunowed⟩ hh hcrc, rejectFrame_unowed hunowed]
  case overrun => exact fun chars hw => exec_requestFrame_owed hw hrunning hh rfl

end Sys2Proof.Proofs
end
section
/-! PROOFS. The operations of the line that several events share: what each leaves unchanged, and what a hold entry, a stop
and a line reset come to, field by field. -/

namespace Sys2Proof.Machine

variable (s : State)

/-! ## addOwed -/

@[simp] theorem addOwed_start (c : OwedCommand) : (addOwed c s).start = s.start := rfl
@[simp] theorem addOwed_settings (c : OwedCommand) : (addOwed c s).settings = s.settings := rfl
@[simp] theorem addOwed_link (c : OwedCommand) : (addOwed c s).link = s.link := rfl
@[simp] theorem addOwed_dir (c : OwedCommand) : (addOwed c s).dir = s.dir := rfl
@[simp] theorem addOwed_survey (c : OwedCommand) : (addOwed c s).survey = s.survey := rfl
@[simp] theorem addOwed_sched (c : OwedCommand) : (addOwed c s).sched = s.sched := rfl
@[simp] theorem addOwed_store (c : OwedCommand) : (addOwed c s).store = s.store := rfl
@[simp] theorem addOwed_pool (c : OwedCommand) : (addOwed c s).pool = s.pool := rfl
@[simp] theorem addOwed_faults (c : OwedCommand) : (addOwed c s).faults = s.faults := rfl
@[simp] theorem addOwed_nodes (c : OwedCommand) : (addOwed c s).nodes = s.nodes := rfl
@[simp] theorem addOwed_freeIndex (c : OwedCommand) : (addOwed c s).freeIndex = s.freeIndex := rfl
@[simp] theorem addOwed_pending (c : OwedCommand) : (addOwed c s).pending = s.pending := rfl

/-! ## cycleStart -/

@[simp] theorem cycleStart_start : (cycleStart s).start = s.start := rfl
@[simp] theorem cycleStart_settings : (cycleStart s).settings = s.settings := rfl
@[simp] theorem cycleStart_link : (cycleStart s).link = s.link := rfl
@[simp] theorem cycleStart_survey : (cycleStart s).survey = s.survey := rfl
@[simp] theorem cycleStart_store : (cycleStart s).store = s.store := rfl
@[simp] theorem cycleStart_pool : (cycleStart s).pool = s.pool := rfl
@[simp] theorem cycleStart_faults : (cycleStart s).faults = s.faults := rfl
@[simp] theorem cycleStart_nodes : (cycleStart s).nodes = s.nodes := rfl
@[simp] theorem cycleStart_freeIndex : (cycleStart s).freeIndex = s.freeIndex := rfl
@[simp] theorem cycleStart_pending : (cycleStart s).pending = s.pending := rfl

/-! ## stopPolling -/

@[simp] theorem stopPolling_start : (stopPolling s).start = s.start := rfl
@[simp] theorem stopPolling_settings : (stopPolling s).settings = s.settings := rfl
@[simp] theorem stopPolling_link : (stopPolling s).link = s.link := rfl
@[simp] theorem stopPolling_dir : (stopPolling s).dir = s.dir := rfl
@[simp] theorem stopPolling_survey : (stopPolling s).survey = s.survey := rfl
@[simp] theorem stopPolling_store : (stopPolling s).store = s.store := rfl
@[simp] theorem stopPolling_pool : (stopPolling s).pool = s.pool := rfl
@[simp] theorem stopPolling_faults : (stopPolling s).faults = s.faults := rfl
@[simp] theorem stopPolling_nodes : (stopPolling s).nodes = s.nodes := rfl
@[simp] theorem stopPolling_freeIndex : (stopPolling s).freeIndex = s.freeIndex := rfl
@[simp] theorem stopPolling_pending : (stopPolling s).pending = s.pending := rfl

/-! ## closeGates -/

@[simp] theorem closeGates_start : (closeGates s).start = s.start := rfl
@[simp] theorem closeGates_settings : (closeGates s).settings = s.settings := rfl
@[simp] theorem closeGates_link : (closeGates s).link = s.link := rfl
@[simp] theorem closeGates_survey : (closeGates s).survey = s.survey := rfl
@[simp] theorem closeGates_line : (closeGates s).line = s.line := rfl
@[simp] theorem closeGates_sched : (closeGates s).sched = s.sched := rfl
@[simp] theorem closeGates_store : (closeGates s).store = s.store := rfl
@[simp] theorem closeGates_pool : (closeGates s).pool = s.pool := rfl
@[simp] theorem closeGates_faults : (closeGates s).faults = s.faults := rfl
@[simp] theorem closeGates_nodes : (closeGates s).nodes = s.nodes := rfl
@[simp] theorem closeGates_freeIndex : (closeGates s).freeIndex = s.freeIndex := rfl
@[simp] theorem closeGates_pending : (closeGates s).pending = s.pending := rfl

/-! ## enterOff -/

@[simp] theorem enterOff_start : (enterOff s).start = s.start := rfl
@[simp] theorem enterOff_settings : (enterOff s).settings = s.settings := rfl
@[simp] theorem enterOff_link : (enterOff s).link = s.link := rfl
@[simp] theorem enterOff_dir : (enterOff s).dir = s.dir := rfl
@[simp] theorem enterOff_survey : (enterOff s).survey = s.survey := rfl
@[simp] theorem enterOff_sched : (enterOff s).sched = s.sched := rfl
@[simp] theorem enterOff_store : (enterOff s).store = s.store := rfl
@[simp] theorem enterOff_pool : (enterOff s).pool = s.pool := rfl
@[simp] theorem enterOff_faults : (enterOff s).faults = s.faults := rfl
@[simp] theorem enterOff_nodes : (enterOff s).nodes = s.nodes := rfl
@[simp] theorem enterOff_freeIndex : (enterOff s).freeIndex = s.freeIndex := rfl
@[simp] theorem enterOff_pending : (enterOff s).pending = s.pending := rfl

/-! ## enterRunning -/

@[simp] theorem enterRunning_start : (enterRunning s).start = s.start := rfl
@[simp] theorem enterRunning_settings : (enterRunning s).settings = s.settings := rfl
@[simp] theorem enterRunning_link : (enterRunning s).link = s.link := rfl
@[simp] theorem enterRunning_dir : (enterRunning s).dir = s.dir := rfl
@[simp] theorem enterRunning_survey : (enterRunning s).survey = s.survey := rfl
@[simp] theorem enterRunning_store : (enterRunning s).store = s.store := rfl
@[simp] theorem enterRunning_pool : (enterRunning s).pool = s.pool := rfl
@[simp] theorem enterRunning_faults : (enterRunning s).faults = s.faults := rfl
@[simp] theorem enterRunning_nodes : (enterRunning s).nodes = s.nodes := rfl
@[simp] theorem enterRunning_freeIndex : (enterRunning s).freeIndex = s.freeIndex := rfl
@[simp] theorem enterRunning_pending : (enterRunning s).pending = s.pending := rfl

/-! ## clearDirectory -/

@[simp] theorem clearDirectory_start : (clearDirectory s).start = s.start := rfl
@[simp] theorem clearDirectory_settings : (clearDirectory s).settings = s.settings := rfl
@[simp] theorem clearDirectory_link : (clearDirectory s).link = s.link := rfl
@[simp] theorem clearDirectory_survey : (clearDirectory s).survey = s.survey := rfl
@[simp] theorem clearDirectory_line : (clearDirectory s).line = s.line := rfl
@[simp] theorem clearDirectory_pool : (clearDirectory s).pool = s.pool := rfl
@[simp] theorem clearDirectory_faults : (clearDirectory s).faults = s.faults := rfl
@[simp] theorem clearDirectory_nodes : (clearDirectory s).nodes = s.nodes := rfl
@[simp] theorem clearDirectory_freeIndex : (clearDirectory s).freeIndex = s.freeIndex := rfl
@[simp] theorem clearDirectory_pending : (clearDirectory s).pending = s.pending := rfl

/-! ## zeroMisses -/

@[simp] theorem zeroMisses_start : (zeroMisses s).start = s.start := rfl
@[simp] theorem zeroMisses_settings : (zeroMisses s).settings = s.settings := rfl
@[simp] theorem zeroMisses_link : (zeroMisses s).link = s.link := rfl
@[simp] theorem zeroMisses_survey : (zeroMisses s).survey = s.survey := rfl
@[simp] theorem zeroMisses_line : (zeroMisses s).line = s.line := rfl
@[simp] theorem zeroMisses_sched : (zeroMisses s).sched = s.sched := rfl
@[simp] theorem zeroMisses_store : (zeroMisses s).store = s.store := rfl
@[simp] theorem zeroMisses_pool : (zeroMisses s).pool = s.pool := rfl
@[simp] theorem zeroMisses_faults : (zeroMisses s).faults = s.faults := rfl
@[simp] theorem zeroMisses_nodes : (zeroMisses s).nodes = s.nodes := rfl
@[simp] theorem zeroMisses_freeIndex : (zeroMisses s).freeIndex = s.freeIndex := rfl
@[simp] theorem zeroMisses_pending : (zeroMisses s).pending = s.pending := rfl

@[simp] theorem addOwed_silence (c : OwedCommand) : (addOwed c s).line.silence = s.line.silence := rfl
@[simp] theorem addOwed_haltTimer (c : OwedCommand) : (addOwed c s).line.haltTimer = s.line.haltTimer := rfl
@[simp] theorem stopPolling_cycle : (stopPolling s).sched.cycle = none := rfl
@[simp] theorem closeGates_bindings : (closeGates s).dir.bindings = s.dir.bindings := rfl
@[simp] theorem closeGates_changes : (closeGates s).dir.changes = s.dir.changes := rfl
@[simp] theorem zeroMisses_bindings : (zeroMisses s).dir.bindings = s.dir.bindings := rfl
@[simp] theorem zeroMisses_changes : (zeroMisses s).dir.changes = s.dir.changes := rfl
@[simp] theorem enterOff_state : (enterOff s).line.state = .off := rfl

/-- The command of the send that joins the list last. -/
@[simp] theorem addOwed_getLast (c : OwedCommand) :
    (addOwed c s).line.owed.getLast?.map (fun o => o.command) = some c := by
  simp [addOwed_owed]

/-! ## Aborts (R34, R124, R125) -/

/-- A request as it completes when its work is aborted. -/
def abortedCompletion (r : PoolRequest) : Completion := { request := r, outcome := .aborted, data := [] }

/-- The pool once the request in flight has been aborted. -/
def Pool.flightAborted (p : Pool) : Pool :=
  { p with inFlight := none, completed := p.completed ++ p.inFlight.toList.map abortedCompletion }

/-- The pool once all its work has been aborted, in order. -/
def Pool.allAborted (p : Pool) : Pool where
  queued := []
  inFlight := none
  completed := p.completed ++ (p.inFlight.toList ++ p.queued).map abortedCompletion

/-- R34: the transaction that an abort leaves is the one told to end. -/
theorem abortedTransaction_eq (x : Transaction) : abortedTransaction x = toldToEnd x := by
  cases h : x.phase <;> simp [abortedTransaction, toldToEnd, markAborted, h]

theorem flightAborted_none {p : Pool} (h : p.inFlight = none) : p.flightAborted = p := by
  cases p
  simp_all [Pool.flightAborted]

theorem abortInFlight_eq : abortInFlight s = s.setPool s.pool.flightAborted := by
  unfold abortInFlight
  split
  · rename_i h
    rw [flightAborted_none h]
    rfl
  · rename_i r h
    simp [completeRequest, completionClaim, Pool.flightAborted, h, abortedCompletion]

theorem abortTransaction_eq :
    abortTransaction s =
      (s.setLine { s.line with txn := s.line.txn.map toldToEnd }).setPool s.pool.flightAborted := by
  rw [abortTransaction, abortInFlight_eq, funext abortedTransaction_eq]
  rfl

theorem abortQueued_abortTransaction :
    abortQueued (abortTransaction s) =
      (s.setLine { s.line with txn := s.line.txn.map toldToEnd }).setPool s.pool.allAborted := by
  rw [abortTransaction_eq, abortQueued]
  simp [Pool.flightAborted, Pool.allAborted, State.setPool, abortedCompletion]

/-! ## A survey that is told to stop (R63, R64) -/

/-- What telling a survey to stop can be. -/
theorem stopSurvey_cases : stopSurvey s = s ∨ stopSurvey s = s.setSurvey { s.survey with stopping := true } ∨
    stopSurvey s = surveyStops s := by
  unfold stopSurvey
  split
  · split
    · exact .inr (.inl rfl)
    · exact .inr (.inr rfl)
  · exact .inl rfl

section
variable {α : Type} (f : State → α)

/-- What neither the survey unit nor its latch shows, a stopping survey leaves alone. -/
theorem surveyStops_unseen (hsurvey : ∀ t u, f (t.setSurvey u) = f t) (hlatch : ∀ t, f (t.latchSurveyDone) = f t) :
    f (surveyStops s) = f s := by
  rw [surveyStops, hlatch, hsurvey]

theorem stopSurvey_unseen (hsurvey : ∀ t u, f (t.setSurvey u) = f t) (hlatch : ∀ t, f (t.latchSurveyDone) = f t) :
    f (stopSurvey s) = f s := by
  rcases stopSurvey_cases s with h | h | h <;> rw [h]
  · exact hsurvey _ _
  · exact surveyStops_unseen s f hsurvey hlatch

theorem frameBoundary_unseen (hsurvey : ∀ t u, f (t.setSurvey u) = f t) (hlatch : ∀ t, f (t.latchSurveyDone) = f t) :
    f (frameBoundary s) = f s := by
  unfold frameBoundary
  split
  · exact surveyStops_unseen s f hsurvey hlatch
  · rfl

end

@[simp] theorem surveyStops_start : (surveyStops s).start = s.start :=
  surveyStops_unseen s (·.start) (fun _ _ => rfl) latchSurveyDone_start
@[simp] theorem surveyStops_settings : (surveyStops s).settings = s.settings :=
  surveyStops_unseen s (·.settings) (fun _ _ => rfl) latchSurveyDone_settings
@[simp] theorem surveyStops_dir : (surveyStops s).dir = s.dir :=
  surveyStops_unseen s (·.dir) (fun _ _ => rfl) latchSurveyDone_dir
@[simp] theorem surveyStops_line : (surveyStops s).line = s.line :=
  surveyStops_unseen s (·.line) (fun _ _ => rfl) latchSurveyDone_line
@[simp] theorem surveyStops_sched : (surveyStops s).sched = s.sched :=
  surveyStops_unseen s (·.sched) (fun _ _ => rfl) latchSurveyDone_sched
@[simp] theorem surveyStops_store : (surveyStops s).store = s.store :=
  surveyStops_unseen s (·.store) (fun _ _ => rfl) latchSurveyDone_store
@[simp] theorem surveyStops_pool : (surveyStops s).pool = s.pool :=
  surveyStops_unseen s (·.pool) (fun _ _ => rfl) latchSurveyDone_pool
@[simp] theorem surveyStops_faults : (surveyStops s).faults = s.faults :=
  surveyStops_unseen s (·.faults) (fun _ _ => rfl) latchSurveyDone_faults
@[simp] theorem surveyStops_nodes : (surveyStops s).nodes = s.nodes :=
  surveyStops_unseen s (·.nodes) (fun _ _ => rfl) latchSurveyDone_nodes
@[simp] theorem surveyStops_pending : (surveyStops s).pending = s.pending :=
  surveyStops_unseen s (·.pending) (fun _ _ => rfl) latchSurveyDone_pending

@[simp] theorem stopSurvey_start : (stopSurvey s).start = s.start :=
  stopSurvey_unseen s (·.start) (fun _ _ => rfl) latchSurveyDone_start
@[simp] theorem stopSurvey_settings : (stopSurvey s).settings = s.settings :=
  stopSurvey_unseen s (·.settings) (fun _ _ => rfl) latchSurveyDone_settings
@[simp] theorem stopSurvey_dir : (stopSurvey s).dir = s.dir :=
  stopSurvey_unseen s (·.dir) (fun _ _ => rfl) latchSurveyDone_dir
@[simp] theorem stopSurvey_line : (stopSurvey s).line = s.line :=
  stopSurvey_unseen s (·.line) (fun _ _ => rfl) latchSurveyDone_line
@[simp] theorem stopSurvey_sched : (stopSurvey s).sched = s.sched :=
  stopSurvey_unseen s (·.sched) (fun _ _ => rfl) latchSurveyDone_sched
@[simp] theorem stopSurvey_store : (stopSurvey s).store = s.store :=
  stopSurvey_unseen s (·.store) (fun _ _ => rfl) latchSurveyDone_store
@[simp] theorem stopSurvey_pool : (stopSurvey s).pool = s.pool :=
  stopSurvey_unseen s (·.pool) (fun _ _ => rfl) latchSurveyDone_pool
@[simp] theorem stopSurvey_faults : (stopSurvey s).faults = s.faults :=
  stopSurvey_unseen s (·.faults) (fun _ _ => rfl) latchSurveyDone_faults
@[simp] theorem stopSurvey_nodes : (stopSurvey s).nodes = s.nodes :=
  stopSurvey_unseen s (·.nodes) (fun _ _ => rfl) latchSurveyDone_nodes
@[simp] theorem stopSurvey_pending : (stopSurvey s).pending = s.pending :=
  stopSurvey_unseen s (·.pending) (fun _ _ => rfl) latchSurveyDone_pending

@[simp] theorem frameBoundary_start : (frameBoundary s).start = s.start :=
  frameBoundary_unseen s (·.start) (fun _ _ => rfl) latchSurveyDone_start
@[simp] theorem frameBoundary_settings : (frameBoundary s).settings = s.settings :=
  frameBoundary_unseen s (·.settings) (fun _ _ => rfl) latchSurveyDone_settings
@[simp] theorem frameBoundary_dir : (frameBoundary s).dir = s.dir :=
  frameBoundary_unseen s (·.dir) (fun _ _ => rfl) latchSurveyDone_dir
@[simp] theorem frameBoundary_line : (frameBoundary s).line = s.line :=
  frameBoundary_unseen s (·.line) (fun _ _ => rfl) latchSurveyDone_line
@[simp] theorem frameBoundary_sched : (frameBoundary s).sched = s.sched :=
  frameBoundary_unseen s (·.sched) (fun _ _ => rfl) latchSurveyDone_sched
@[simp] theorem frameBoundary_store : (frameBoundary s).store = s.store :=
  frameBoundary_unseen s (·.store) (fun _ _ => rfl) latchSurveyDone_store
@[simp] theorem frameBoundary_pool : (frameBoundary s).pool = s.pool :=
  frameBoundary_unseen s (·.pool) (fun _ _ => rfl) latchSurveyDone_pool
@[simp] theorem frameBoundary_faults : (frameBoundary s).faults = s.faults :=
  frameBoundary_unseen s (·.faults) (fun _ _ => rfl) latchSurveyDone_faults
@[simp] theorem frameBoundary_nodes : (frameBoundary s).nodes = s.nodes :=
  frameBoundary_unseen s (·.nodes) (fun _ _ => rfl) latchSurveyDone_nodes
@[simp] theorem frameBoundary_pending : (frameBoundary s).pending = s.pending :=
  frameBoundary_unseen s (·.pending) (fun _ _ => rfl) latchSurveyDone_pending

/-! ## Hold entry (R131) -/

/-- The line engine that a hold entry leaves. -/
def LineEngine.held (l : LineEngine) : LineEngine :=
  { l with
    state := .held
    txn := l.txn.map toldToEnd
    owed := l.owed.filter (fun o => !supersededBy .halt o) ++ [{ command := .halt, framesBegun := 0 }]
    silence := false
    keepWaiting := false
    haltTimer := false
    haltWaiting := false }

/-- R131: a hold entry outside HELD, block by block. -/
theorem holdEntry_eq {s : State} (h : s.line.state ≠ .held) :
    holdEntry s =
      { stopSurvey s with
        line := s.line.held
        sched := { s.sched with due := allCells 32 false, cycle := none }
        dir := { s.dir with entries := mapCells (fun e => { e with gateOpen := false }) s.dir.entries }
        pool := s.pool.allAborted } := by
  have hsame : ∀ u : State, u.line = s.line → u.sched = s.sched → u.dir = s.dir → u.pool = s.pool →
      (let quiet := addOwed .halt (stopPolling (closeGates (abortQueued (abortTransaction u))))
       quiet.setLine { quiet.line with state := .held, haltTimer := false, haltWaiting := false }) =
      { u with
        line := s.line.held
        sched := { s.sched with due := allCells 32 false, cycle := none }
        dir := { s.dir with entries := mapCells (fun e => { e with gateOpen := false }) s.dir.entries }
        pool := s.pool.allAborted } := by
    intro u hl hs hd hp
    rw [abortQueued_abortTransaction, ← hl, ← hs, ← hd, ← hp]
    rfl
  rw [holdEntry, if_neg h]
  exact hsame _ (by simp) (by simp) (by simp) (by simp)

end Sys2Proof.Machine
end
section
/-! PROOFS. The induction that every law of the part shares: a law that each elementary change of the state keeps is kept
by every command and by every step. A law says in `StepRules` how each elementary change keeps it; the case analysis over
the commands is done here, once. -/

namespace Sys2Proof.Machine

/-! ## Tags within tags -/

/-- The tags of one list, in whatever order, are among those of the other, each at most as often. -/
def TagsWithin (l l' : List Byte) : Prop := ∃ k : List Byte, k.Perm l ∧ k.Sublist l'

theorem tagsWithin_of_perm {l l' : List Byte} (h : l.Perm l') : TagsWithin l l' := ⟨l', h.symm, List.Sublist.refl l'⟩

theorem tagsWithin_of_sublist {l l' : List Byte} (h : l.Sublist l') : TagsWithin l l' := ⟨l, List.Perm.refl l, h⟩

theorem TagsWithin.length_le {l l' : List Byte} (h : TagsWithin l l') : l.length ≤ l'.length := by
  obtain ⟨k, hperm, hsub⟩ := h
  exact hperm.length_eq ▸ hsub.length_le

theorem TagsWithin.nodup {l l' : List Byte} (h : TagsWithin l l') (hl : l'.Nodup) : l.Nodup := by
  obtain ⟨k, hperm, hsub⟩ := h
  exact hperm.nodup_iff.1 (hl.sublist hsub)

/-! ## The elementary changes -/

/-- A change to an entry that is not FREE that leaves its claim as it stands: its state, its identity, its descriptor and
the time of its seating; a gate may open only outside HELD, and misses stay below the limit. -/
structure EntryTouched (s : State) (i : Slot) (e : Entry) : Prop where
  taken : (s.entry i).state ≠ .free
  state : e.state = (s.entry i).state
  identity : e.identity = (s.entry i).identity
  descriptor : e.descriptor = (s.entry i).descriptor
  seatedAt : e.seatedAt = (s.entry i).seatedAt
  gate : e.gateOpen = true → (s.entry i).gateOpen = true ∨ s.line.state ≠ .held
  misses : e.missCount = 0 ∨ e.missCount = (s.entry i).missCount ∨
    (s.entry i).state = .active ∧ e.missCount < s.sched.missLimit

/-- A change to the line engine's marks: its state, its frame, what it owes and its timers stand. -/
structure LineMarked (l l' : LineEngine) : Prop where
  state : l'.state = l.state
  txn : l'.txn = l.txn
  owed : l'.owed = l.owed
  silence : l'.silence = l.silence
  haltTimer : l'.haltTimer = l.haltTimer

/-- A change to a round that begins no SEAT phase and no describe phase. -/
structure RoundMoved (r r' : Round) : Prop where
  seat : r'.phase = .seat → r.phase = .seat ∧ r'.chosen = r.chosen ∧ r'.reading = r.reading
  describe : r'.phase = .describe → r.phase = .describe ∧ r'.chosen = r.chosen

/-- A survey unit that goes on with the same survey. -/
structure SurveyGoesOn (u u' : SurveyUnit) : Prop where
  state : u'.record.state = u.record.state
  stopping : u'.stopping = u.stopping

/-- R59, R110: a frame that begins is the one its work asks for. -/
structure FrameFits (s : State) (f : LineFrame) (user : LineUser) : Prop where
  pool : user = .pool → ∃ r, s.pool.inFlight = some r ∧ f = requestFrameOf r
  describe : ∀ r, user = .survey → s.survey.round = some r → r.phase = .describe →
    ∃ i, r.chosen = some i ∧ f = addressed .desc i

/-- How each elementary change of the state keeps a law `P`. `W` stands for what is known of the entries and of the work
on the line when an answer is judged, `A` says that an answer is being taken, `S` that a start is. -/
structure StepRules (W A S : Prop) (P : State → Prop) : Prop where
  link : ∀ s l, P s → P (s.setLink l) := by intros; assumption
  index : ∀ (s : State) n, P s → P { s with freeIndex := n } := by intros; assumption
  settings : ∀ s x, P s → P (s.setSettings x) := by intros; assumption
  start : ∀ s x, P s → P (s.setStart x) := by intros; assumption
  nodes : ∀ (s : State) ns, P s → P { s with nodes := ns } := by intros; assumption
  time : ∀ s n, P s → P (s.passTime n) := by intros; assumption
  reset : S → ∀ s, P s → P (resetBlocks s) := by intros; assumption
  load : S → ∀ s, P s → P (loadSettings (resetBlocks s)) := by intros; assumption
  -- the fault unit
  occurs : ∀ s k slot detail injected, P s → P (s.setRecord k (recordAfter k slot detail injected s)) := by
    intros; assumption
  escalates : ∀ s k, s.expired k = true → P s →
    P (s.setRecord k { s.record k with alert := .escalated, deadline := none }) := by intros; assumption
  acknowledges : ∀ s k, P s → P (s.setRecord k (acknowledged (s.record k))) := by intros; assumption
  clears : ∀ s k, (s.record k).alert = .none → P s →
    P (s.setRecord k { s.record k with count := 0, first := none, latest := none }) := by intros; assumption
  faultUnit : ∀ (s : State) f, f.records = s.faults.records → P s → P { s with faults := f } := by intros; assumption
  -- the directory
  touched : ∀ s i e, EntryTouched s i e → P s → P (s.setEntry i e) := by intros; assumption
  paused : ∀ s i, (s.entry i).state = .active → P s →
    P ((s.setEntry i { s.entry i with state := .paused, missCount := 0 }).setDue i false) := by intros; assumption
  activated : ∀ s i, (s.entry i).state = .paused → P s → P (s.setEntry i { s.entry i with state := .active }) := by
    intros; assumption
  freed : ∀ s i, P s → P (freeEntry i s) := by intros; assumption
  lost : ∀ s i, (s.entry i).state = .active → P s → P (passToLost i s) := by intros; assumption
  described : ∀ s i d prior, (W → descriptorLawful d) → P s → P (describeSuccess i d prior s) := by intros; assumption
  redescribed : ∀ s i d, (W → descriptorLawful d) → P s → P (describeDone i d s) := by intros; assumption
  binds : ∀ s i x, P s → P (bindTo i x s) := by intros; assumption
  unbinds : ∀ (s : State) i, P s →
    P { s with dir := { s.dir with bindings := putCell s.dir.bindings i none } } := by intros; assumption
  changes : ∀ (s : State) c, P s → P { s with dir := { s.dir with changes := c } } := by intros; assumption
  polls : ∀ (s : State) period limit, 1 ≤ limit → P s →
    P (zeroMisses { s with sched := { s.sched with period := period, missLimit := limit } }) := by intros; assumption
  -- the report store
  memory : A → ∀ s m, (Memory.wf s.store.memory = true → Memory.wf m = true) → P s → P (s.setMemory m) := by
    intros; assumption
  ring : ∀ s i r r', s.ring i = some r → r'.base = r.base → r'.size = r.size → (W → ringLawful r → ringLawful r') →
    P s → P (s.setRing i (some r')) := by intros; assumption
  assigned : ∀ s i r, ringLawful r → (s.entry i).state ≠ .free → s.overlapsOther i r.base r.size = false → P s →
    P (s.setRing i (some r)) := by intros; assumption
  unassigned : ∀ s i, P s → P (s.setRing i none) := by intros; assumption
  -- the request pool
  enqueued : ∀ s r, r.tag ∉ s.pool.tags → s.pool.size < 8 → P s →
    P (s.setPool { s.pool with queued := s.pool.queued ++ [r] }) := by intros; assumption
  pool : ∀ s p, TagsWithin p.tags s.pool.tags → s.quiet = true ∨ p.inFlight = s.pool.inFlight → P s → P (s.setPool p) := by
    intros; assumption
  -- the frame on the line
  frameEnds : ∀ s t p, s.line.txn = some t → t.phase = .send ∨ t.phase = .receive ∨ t.phase = .contest →
    p = .space ∨ p = .wait ∧ t.phase = .send → P s → P (frameBoundary (toPhase p t s))
  windowEnds : ∀ s t p, s.line.txn = some t → t.phase = .wait → p = .receive ∨ p = .space → P s →
    P (toPhase p t s) := by intros; assumption
  contestBegins : ∀ s t b, s.line.txn = some t → t.phase = .send → P s →
    P (s.setTxn (some { t with phase := .contest, contestBroken := b })) := by intros; assumption
  txnMarked : ∀ s t b h, s.line.txn = some t → P s →
    P (s.setTxn (some { t with contestBroken := b, spaceHit := h })) := by intros; assumption
  released : ∀ s t, s.line.txn = some t → t.phase = .space → P s → P (s.setTxn none) := by intros; assumption
  begun : ∀ s f u, s.line.txn = none → FrameFits s f u → P s → P (beginFrame f u s) := by intros; assumption
  -- the line engine and the scheduler
  lineMarked : ∀ s l, LineMarked s.line l → P s → P (s.setLine l) := by intros; assumption
  owes : ∀ s c, P s → P (addOwed c s) := by intros; assumption
  owedBegins : ∀ s o rest n, s.line.owed = o :: rest → 0 < n → P s →
    P (s.setLine { s.line with owed := { o with framesBegun := n } :: rest }) := by intros; assumption
  owedEnds : ∀ s o rest, s.line.owed = o :: rest → P s → P (s.setLine { s.line with owed := rest }) := by
    intros; assumption
  haltTimer : ∀ s, s.line.state = .held → P s → P (s.setLine { s.line with haltTimer := true }) := by intros; assumption
  directoryCleared : ∀ s, P s → P (clearDirectory s) := by intros; assumption
  undue : ∀ s i, P s → P (s.setDue i false) := by intros; assumption
  late : ∀ (s : State) n, P s → P { s with sched := { s.sched with lateCycles := n } } := by intros; assumption
  cycles : ∀ s, s.line.state = .running → P s → P (cycleStart s) := by intros; assumption
  runs : ∀ s, s.line.state = .off ∨ s.line.state = .held → P s → P (enterRunning s) := by intros; assumption
  stops : ∀ s, s.line.state = .running → P s → P (enterOff (stopPolling (abortTransaction s)))
  stopsSurvey : ∀ s, s.line.state = .survey → P s →
    P (enterOff (addOwed .close (stopPolling (abortTransaction (stopSurvey s)))))
  resets : ∀ s, P s → P (lineReset s)
  holds : ∀ s, s.line.state ≠ .held → P s → P (holdEntry s)
  -- the survey unit
  surveyBegins : ∀ s, s.line.state = .running → P s → P (startSurvey s)
  roundBegins : ∀ s u, s.line.state = .survey → s.line.txn = none → SurveyGoesOn s.survey u → u.round = some freshRound →
    P s → P (s.setSurvey u) := by intros; assumption
  roundMoves : ∀ s u r r', s.survey.round = some r → u.round = some r' → RoundMoved r r' → SurveyGoesOn s.survey u →
    P s → P (s.setSurvey u) := by intros; assumption
  winner : ∀ s r i x check, s.survey.round = some r → s.slotChoice x = some i → P s →
    P (s.setRound
      (some { r with phase := .seat, reading := some (.clean x check), chosen := some i, attempts := 0 })) := by
    intros; assumption
  seats : ∀ s u r r' i x check, s.quiet = true → s.survey.round = some r → r.phase = .seat → r.chosen = some i →
    r.reading = some (.clean x check) → (s.entry i).state = .free → u.round = some r' → r'.phase = .describe →
    SurveyGoesOn s.survey u → P s → P ((seatNew i x s).setSurvey u) := by intros; assumption
  rejoins : ∀ s u r r' i, s.quiet = true → s.survey.round = some r → r.phase = .seat → r.chosen = some i →
    (s.entry i).state ≠ .free → u.round = some r' → r'.phase = .describe → SurveyGoesOn s.survey u → P s →
    P ((rejoin i s).setSurvey u) := by intros; assumption
  roundEnds : ∀ s u, s.survey.round.isSome = true → (s.survey.stopping = true → s.surveyFrameRuns = false) →
    u.round = none → SurveyGoesOn s.survey u → P s → P (s.setSurvey u) := by intros; assumption
  surveyEnds : ∀ s result, result ≠ .running → s.survey.round.isSome = true →
    (s.survey.stopping = true → s.surveyFrameRuns = false) → P s → P (finishSurvey result s)

/-! ## What the entries' own updates leave of a ring -/

theorem ringSizes_ge {n : Nat} (h : n ∈ ringSizes) : 64 ≤ n := by
  simp only [ringSizes, List.mem_cons, List.not_mem_nil, or_false] at h
  omega

/-- R102: a lawful ring without its oldest records is lawful. -/
theorem dropRecords_lawful {r : Ring} (h : ringLawful r) (m : Memory) (n : Nat) : ringLawful (dropRecords m n r) := by
  obtain ⟨hsize, hbase, hstore, hmark, hold, hused, hnone⟩ := h
  have := ringSizes_ge hsize
  refine ⟨hsize, hbase, hstore, hmark, Nat.mod_lt _ (by omega), ?_, ?_⟩
  · simp only [dropRecords]
    split <;> omega
  · intro hcount
    simp only [dropRecords] at hcount ⊢
    rw [if_pos (by omega)]

/-- R99: everything the discarding leaves: a lawful ring with the same bytes, and room, or no record at all. -/
theorem discardFor_spec (m : Memory) (need : Nat) : ∀ (fuel : Nat) (r : Ring) (k : Nat), r.count ≤ fuel →
    (discardFor m need fuel r k).1.base = r.base ∧ (discardFor m need fuel r k).1.size = r.size ∧
      (ringLawful r → ringLawful (discardFor m need fuel r k).1) ∧
      (need ≤ (discardFor m need fuel r k).1.size - (discardFor m need fuel r k).1.used ∨
        (discardFor m need fuel r k).1.count = 0)
  | 0, r, k, h => ⟨rfl, rfl, id, .inr (Nat.le_zero.1 h)⟩
  | fuel + 1, r, k, h => by
    unfold discardFor
    split
    · rename_i hdone
      exact ⟨rfl, rfl, id, hdone⟩
    · have hcount : (dropRecords m 1 r).count ≤ fuel := by simp only [dropRecords]; omega
      obtain ⟨hbase, hsize, hlaw, hroom⟩ := discardFor_spec m need fuel (dropRecords m 1 r) (k + 1) hcount
      exact ⟨hbase, hsize, fun hr => hlaw (dropRecords_lawful hr m 1), hroom⟩

theorem recordBytes_length (rec : ReportRecord) : (recordBytes rec).length = 7 + rec.payload.length := by
  simp [recordBytes, bigEndian]
  omega

/-- R97: a lawful ring that takes a record for which it has room is lawful. -/
theorem storedRing_lawful {r : Ring} (h : ringLawful r) {n : Nat} (hroom : r.used + n ≤ r.size) (stored : BitVec 16) :
    ringLawful { r with used := r.used + n, count := r.count + 1, pendingLoss := false, stored := stored } := by
  obtain ⟨hsize, hbase, hstore, hmark, hold, _, _⟩ := h
  exact ⟨hsize, hbase, hstore, hmark, hold, hroom, fun e => absurd e (Nat.succ_ne_zero _)⟩

/-! ## The pool's tags -/

theorem Pool.tags_completed {p : Pool} {r : PoolRequest} (h : p.inFlight = some r) (o : PoolOutcome) (data : List Byte) :
    TagsWithin ({ p with inFlight := none, completed := p.completed ++ [{ request := r, outcome := o, data }] } : Pool).tags
      p.tags := by
  refine tagsWithin_of_perm ?_
  simp only [Pool.tags, h, Option.toList, List.map_nil, List.map_cons, List.append_nil, List.map_append]
  rw [List.append_assoc]
  exact List.Perm.append_left _ List.perm_append_comm

theorem Pool.tags_started {p : Pool} {r : PoolRequest} {rest : List PoolRequest} (h : p.queued = r :: rest) :
    TagsWithin ({ p with queued := rest, inFlight := some r } : Pool).tags p.tags := by
  simp only [Pool.tags, h, Option.toList, List.map_cons, List.map_nil, List.append_assoc, List.cons_append,
    List.nil_append]
  exact ⟨_, List.perm_middle.symm, (List.Sublist.append_left (List.sublist_append_right _ _) _).cons_cons _⟩

theorem Pool.tags_attempted {p : Pool} {r : PoolRequest} (h : p.inFlight = some r) (n : Nat) :
    TagsWithin ({ p with inFlight := some { r with attempts := n } } : Pool).tags p.tags := by
  refine tagsWithin_of_perm ?_
  simp only [Pool.tags, h]
  exact List.Perm.refl _

theorem Pool.tags_taken (p : Pool) (n : Nat) : TagsWithin ({ p with completed := p.completed.drop n } : Pool).tags p.tags :=
  tagsWithin_of_sublist (List.Sublist.append_left ((List.drop_sublist n _).map _) _)

theorem Pool.tags_cancelled (p : Pool) (q : PoolRequest → Bool) :
    TagsWithin ({ p with queued := p.queued.filter q } : Pool).tags p.tags :=
  tagsWithin_of_sublist
    (List.Sublist.append_right (List.Sublist.append_right (List.filter_sublist.map _) _) _)

end Sys2Proof.Machine
end
section
/-! PROOFS. A law whose elementary changes keep it is kept by every command: the operations of the part in the order of the
model, then the commands, then the step. -/

namespace Sys2Proof.Machine

variable {W A S : Prop} {P : State → Prop} {s : State}

/-! ## What an answer may bring -/

/-- What is known of an outcome that is handed over: a report's length and a descriptor's ranges, as far as `W` gives
them, and that report memory may change. -/
structure OutcomeFits (W A : Prop) (o : LineOutcome) (t : Transaction) (s : State) : Prop where
  report : ∀ status sequence payload, t.user = .poll → o = .good status (sequence :: payload) →
    hasReport status = true → A ∧ (W → payload.length ≤ 16)
  pool : ∀ data r d, t.user = .pool → o = .good 0x00 data → s.pool.inFlight = some r → r.work = .describe →
    descriptorOf data = some d → W → descriptorLawful d
  survey : ∀ data r d, t.user = .survey → o = .good 0x00 data → s.survey.round = some r → r.phase = .describe →
    descriptorOf data = some d → W → descriptorLawful d

theorem outcomeFits_silent (t : Transaction) (s : State) : OutcomeFits W A .silent t s :=
  ⟨fun _ _ _ _ h => (nomatch h), fun _ _ _ _ h => (nomatch h), fun _ _ _ _ h => (nomatch h)⟩

theorem outcomeFits_broken (t : Transaction) (s : State) : OutcomeFits W A .broken t s :=
  ⟨fun _ _ _ _ h => (nomatch h), fun _ _ _ _ h => (nomatch h), fun _ _ _ _ h => (nomatch h)⟩

theorem frameBoundary_round (s : State) :
    (frameBoundary s).survey.round = s.survey.round ∨ (frameBoundary s).survey.round = none := by
  unfold frameBoundary
  split
  · exact .inr (by rw [surveyStops_survey])
  · exact .inl rfl

/-- What fits before a frame boundary fits after it. -/
theorem OutcomeFits.boundary {o : LineOutcome} {t : Transaction} {u : State} (h : OutcomeFits W A o t s)
    (hpool : u.pool = s.pool) (hround : u.survey.round = s.survey.round ∨ u.survey.round = none) :
    OutcomeFits W A o t u := by
  refine ⟨h.report, fun data r d hu ho hr => h.pool data r d hu ho (hpool ▸ hr), fun data r d hu ho hr => ?_⟩
  rcases hround with e | e
  · exact h.survey data r d hu ho (e ▸ hr)
  · rw [e] at hr
    cases hr

/-! ## Survey stops and occurrences -/

/-- An occurrence, block by block: the FAULT latch and the fault unit are all that it touches. -/
theorem occur_eq (k : FaultKind) (slot detail : Byte) (injected : Bool) (s : State) :
    occur k slot detail injected s =
      { s with
        link := { s.link with faultLatch := s.link.faultLatch || decide (s.reaction k ≠ .ignore) }
        faults :=
          { s.faults with
            records := putCell s.faults.records k.index (recordAfter k slot detail injected s)
            holdAsked := s.faults.holdAsked || decide (s.reaction k = .hold) } } := by
  unfold occur recordAfter
  split <;> rename_i h <;> simp [h, State.setRecord, State.latchFault, State.askHold]

theorem surveyStops_occur (k : FaultKind) (slot detail : Byte) (injected : Bool) (s : State) :
    surveyStops (occur k slot detail injected s) = occur k slot detail injected (surveyStops s) := by
  rw [occur_eq, occur_eq]
  cases hc : s.link.clearMayFollow <;>
    simp only [surveyStops, State.latchSurveyDone, State.setSurvey, hc, if_true, if_false, Bool.false_eq_true,
      State.reaction, recordAfter] <;> rfl

theorem frameBoundary_occur (k : FaultKind) (slot detail : Byte) (injected : Bool) (s : State) :
    frameBoundary (occur k slot detail injected s) = occur k slot detail injected (frameBoundary s) := by
  unfold frameBoundary
  rw [occur_survey]
  split
  · exact surveyStops_occur ..
  · rfl

namespace StepRules

variable (R : StepRules W A S P)
include R

/-! ## Occurrences, completions and claims -/

theorem keeps_occur (k : FaultKind) (slot detail : Byte) (injected : Bool) (h : P s) :
    P (occur k slot detail injected s) := by
  have hrec := R.occurs s k slot detail injected h
  have hlatched := R.link _ { s.link with faultLatch := true } hrec
  unfold occur
  unfold recordAfter at hrec hlatched
  split <;> rename_i hr <;> simp only [hr, if_true, if_false, reduceCtorEq] at hrec hlatched
  · exact hrec
  · exact hlatched
  · exact hlatched
  · exact R.faultUnit _ _ rfl hlatched

theorem keeps_raise (k : FaultKind) (slot detail : Byte) (h : P s) : P (raise k slot detail s) :=
  R.keeps_occur k slot detail false h

theorem keeps_raiseForFrame (k : FaultKind) (f : LineFrame) (h : P s) : P (raiseForFrame k f s) :=
  R.keeps_raise _ _ _ h

theorem keeps_latchSurveyDone (h : P s) : P s.latchSurveyDone := by
  unfold State.latchSurveyDone
  split
  · exact R.index (s.setLink _) _ (R.link s { s.link with surveyDone := Config.latchOutlivesClear s.freeIndex } h)
  · exact R.link s { s.link with surveyDone := true } h

theorem keeps_completeRequest {r : PoolRequest} {o : PoolOutcome} {data : List Byte} (hr : s.pool.inFlight = some r)
    (hq : s.quiet = true)
    (hd : o = .done → r.work = .describe → ∀ d, descriptorOf data = some d → W → descriptorLawful d) (h : P s) :
    P (completeRequest r o data s) := by
  have hp := R.pool s _ (Pool.tags_completed hr o data) (.inl hq) h
  unfold completeRequest completionClaim
  split
  · rename_i hw
    split
    · rename_i d hdesc
      exact R.redescribed _ _ d (hd rfl hw d hdesc) hp
    · exact hp
  · exact R.freed _ _ hp
  · exact hp

theorem keeps_takePoolOutcome {o : LineOutcome} {t : Transaction} (hu : t.user = .pool) (hq : s.quiet = true)
    (ho : OutcomeFits W A o t s) (h : P s) : P (takePoolOutcome o s) := by
  unfold takePoolOutcome
  split
  · exact h
  · rename_i r hr
    split
    · rename_i status data
      split
      · rename_i hs
        subst hs
        refine R.keeps_completeRequest hr hq (fun _ hw d hdesc => ?_) h
        rw [doneData.eq_def, hw] at hdesc
        exact ho.pool data r d hu rfl hr hw hdesc
      · exact R.keeps_completeRequest hr hq (nofun) h
    · split
      · exact h
      · exact R.keeps_completeRequest hr hq (nofun) h
    · split
      · exact h
      · exact R.keeps_completeRequest hr hq (nofun) h

/-! ## Reports -/

theorem keeps_storeRecord (hA : A) {i : Slot} {r : Ring} {r₀ : Ring} (alone : Bool) (rec : ReportRecord)
    (hr : s.ring i = some r₀) (hbase : r.base = r₀.base) (hsize : r.size = r₀.size)
    (hlaw : W → ringLawful r₀ → ringLawful r ∧ r.used + (recordBytes rec).length ≤ r.size) (h : P s) :
    P (storeRecord i r alone rec s) := by
  have hlen : (recordBytes { rec with lossBefore := r.pendingLoss || alone }).length = (recordBytes rec).length := by
    simp only [recordBytes_length]
  refine R.ring _ i r₀ _ hr hbase hsize (fun hW h₀ => ?_) (R.memory hA s _ (ringWrite_wf _ _ _ _) h)
  obtain ⟨hl, hroom⟩ := hlaw hW h₀
  exact storedRing_lawful hl (by rw [hlen]; exact hroom) _

theorem keeps_appendTo (hA : A) {i : Slot} {r : Ring} {rec : ReportRecord} (hr : s.ring i = some r)
    (hlen : W → rec.payload.length ≤ 16) (h : P s) : P (appendTo i r rec s) := by
  unfold appendTo
  split
  · rename_i hfit
    refine R.keeps_storeRecord hA false rec hr rfl rfl (fun _ hl => ⟨hl, ?_⟩) h
    obtain ⟨_, _, _, _, _, hused, _⟩ := hl
    omega
  · split
    · exact R.keeps_raise _ _ _ (R.ring _ i r _ hr rfl rfl (fun _ hl => hl) h)
    · obtain ⟨hbase, hsize, hlaw, hroom⟩ := discardFor_spec s.store.memory (recordBytes rec).length r.count r 0 (Nat.le_refl _)
      refine R.keeps_raise _ _ _
        (R.keeps_storeRecord (r₀ := r) hA _ rec hr hbase hsize (fun hW hl => ⟨hlaw hl, ?_⟩)
          (R.memory hA s _ (markOldest_wf _ _) h))
      obtain ⟨hin, _, _, _, _, hused, hnone⟩ := hlaw hl
      have hmin := ringSizes_ge hin
      have hrec := recordBytes_length rec
      have hpay := hlen hW
      dsimp only
      rcases hroom with hroom | hroom
      · omega
      · have := hnone hroom
        omega

theorem keeps_takeReport (hA : A) {i : Slot} {sequence : Byte} {alarm : Bool} {payload : List Byte}
    (hlen : W → payload.length ≤ 16) (hi : (s.entry i).state ≠ .free) (h : P s) :
    P (takeReport i sequence alarm payload s) := by
  have hcounted : P (s.setEntry i (takenEntry sequence (s.entry i))) :=
    R.touched s i _ ⟨hi, rfl, rfl, rfl, rfl, .inl, .inr (.inl rfl)⟩ h
  have hroute : ∀ u, P u → (u.entry i).state ≠ .free → ∀ rec : ReportRecord, rec.payload = payload →
      P (routeRecord i rec u) := by
    intro u hu hiu rec hrec
    unfold routeRecord
    split
    · rename_i r hr
      exact R.keeps_appendTo hA hr (hrec ▸ hlen) hu
    · exact R.touched u i _ ⟨hiu, rfl, rfl, rfl, rfl, .inl, .inr (.inl rfl)⟩ hu
  have htaken : ((s.setEntry i (takenEntry sequence (s.entry i))).entry i).state ≠ .free := by
    rw [entry_setEntry_self]
    exact hi
  unfold takeReport
  dsimp only
  split
  · exact hroute _ (R.keeps_raise _ _ _ hcounted) (by rw [raise_eq, occur_entry]; exact htaken) _ rfl
  · exact hroute _ hcounted htaken _ rfl

theorem keeps_goodAnswer {i : Slot} {status sequence : Byte} {payload : List Byte}
    (hreport : hasReport status = true → A ∧ (W → payload.length ≤ 16)) (hi : (s.entry i).state ≠ .free) (h : P s) :
    P (goodAnswer i status sequence payload s) := by
  have hraised : P (raiseAlarm i sequence (alarmFlag status) s) := by
    unfold raiseAlarm
    split
    · exact R.keeps_raise _ _ _ h
    · exact h
  have hentry : (raiseAlarm i sequence (alarmFlag status) s).entry i = s.entry i := by
    unfold raiseAlarm
    split
    · rw [raise_eq, occur_entry]
    · rfl
  have hanswered := R.touched _ i (answeredEntry (alarmFlag status) (s.entry i))
    ⟨by rw [hentry]; exact hi, by rw [hentry]; rfl, by rw [hentry]; rfl, by rw [hentry]; rfl, by rw [hentry]; rfl,
      by rw [hentry]; exact .inl, .inl rfl⟩ hraised
  unfold goodAnswer
  simp only [hentry]
  split
  · rename_i hrep
    obtain ⟨hA, hlen⟩ := hreport hrep
    split
    · refine R.touched _ i _ ⟨?_, rfl, rfl, rfl, rfl, .inl, .inr (.inl rfl)⟩ hanswered
      rw [entry_setEntry_self]
      exact hi
    · refine R.keeps_takeReport hA hlen ?_ hanswered
      rw [entry_setEntry_self]
      exact hi
  · exact hanswered

theorem keeps_countMiss {i : Slot} (hi : (s.entry i).state = .active) (h : P s) : P (countMiss i s) := by
  unfold countMiss
  dsimp only
  split
  · rename_i hlt
    exact R.keeps_raise _ _ _
      (R.touched s i _ ⟨by simp [hi], rfl, rfl, rfl, rfl, .inl, .inr (.inr ⟨hi, hlt⟩)⟩ h)
  · refine R.keeps_raise _ _ _ (R.lost _ i ?_ (R.keeps_raise _ _ _ h))
    rw [raise_eq, occur_entry, hi]

theorem keeps_takePollOutcome {i : Slot} {o : LineOutcome} {t : Transaction} (hu : t.user = .poll)
    (ho : OutcomeFits W A o t s) (h : P s) : P (takePollOutcome i o s) := by
  unfold takePollOutcome
  split
  · rename_i hi
    exact R.keeps_goodAnswer (ho.report _ _ _ hu rfl) (by simp [hi]) h
  · rename_i hi
    exact R.keeps_goodAnswer (ho.report _ _ _ hu rfl) (by simp [hi]) h
  · rename_i hi
    exact R.keeps_countMiss hi h
  · rename_i hi
    exact R.keeps_countMiss hi h
  · exact R.keeps_raise _ _ _ h
  · exact R.keeps_raise _ _ _ h
  · exact h

/-! ## Surveys -/

theorem keeps_closeRound {e : RoundEnd} {r r' : Round} (hr : s.survey.round = some r) (hm : RoundMoved r r') (h : P s) :
    P (closeRound e r' s) :=
  R.roundMoves s _ r _ hr rfl ⟨hm.seat, hm.describe⟩ ⟨rfl, rfl⟩ h

theorem keeps_takeWinner {r : Round} {x : Identity} {check : Byte} (hr : s.survey.round = some r) (h : P s) :
    P (takeWinner { r with reading := some (.clean x check) } x s) := by
  unfold takeWinner
  split
  · rename_i i hi
    exact R.winner s r i x check hr hi h
  · exact R.keeps_raise _ _ _
      (R.roundMoves s _ r _ hr rfl ⟨nofun, nofun⟩ ⟨rfl, rfl⟩ h)

theorem keeps_judgeReading {r : Round} {reading : Reading} (hr : s.survey.round = some r) (hc : r.phase = .contest)
    (hs : s.survey.stopping = false) (h : P s) : P (judgeReading r reading s) := by
  have hclose : P (closeRound .failed { r with reading := some reading } s) :=
    R.keeps_closeRound hr ⟨fun e => absurd (hc.symm.trans e) (by decide), fun e => absurd (hc.symm.trans e) (by decide)⟩ h
  unfold judgeReading
  dsimp only
  split
  · exact hclose
  · split
    · split
      · exact R.surveyEnds s _ (by decide) (by simp [hr]) (by simp [hs]) h
      · exact hclose
    · split
      · exact hclose
      · exact R.keeps_takeWinner hr h

theorem keeps_takeReading {reading : Reading} (hs : s.survey.stopping = false) (h : P s) :
    P (takeReading reading s) := by
  unfold takeReading
  split
  · rename_i r hr
    split
    · exact h
    · rename_i hn
      simp only [hs, Bool.false_eq_true, false_or, Classical.not_not] at hn
      exact R.keeps_judgeReading hr hn hs h
  · exact h

theorem keeps_seatClaim {r : Round} {i : Slot} {x : Identity} {check : Byte} (hq : s.quiet = true)
    (hr : s.survey.round = some r) (hp : r.phase = .seat) (hc : r.chosen = some i)
    (hx : r.reading = some (.clean x check)) (h : P s) : P (seatClaim r i x s) := by
  unfold seatClaim
  dsimp only
  split
  · rename_i hfree
    exact R.seats s _ r _ i x check hq hr hp hc hx hfree rfl rfl ⟨rfl, rfl⟩ h
  · rename_i hfree
    have hjoined : ∀ p, P ((rejoin i s).setSurvey _) := fun p =>
      R.rejoins s
        { s.survey with
          record := { s.survey.record with rejoined := s.survey.record.rejoined + 1 }
          round := some { r with phase := .describe, attempts := 0, prior := p }
          failures := 0 }
        r _ i hq hr hp hc hfree rfl rfl ⟨rfl, rfl⟩ h
    split
    · exact hjoined _
    · exact R.keeps_raise _ _ _ (hjoined _)

theorem keeps_takeSeatOutcome {r : Round} {o : LineOutcome} (hq : s.quiet = true) (hr : s.survey.round = some r)
    (hp : r.phase = .seat) (h : P s) : P (takeSeatOutcome r o s) := by
  unfold takeSeatOutcome
  split
  · split
    · rename_i hc hx
      exact R.keeps_seatClaim hq hr hp hc hx h
    · exact h
  · split
    · exact R.roundMoves s _ r _ hr rfl ⟨nofun, nofun⟩ ⟨rfl, rfl⟩ h
    · exact h

theorem keeps_takeDescribeOutcome {r : Round} {o : LineOutcome} (hr : s.survey.round = some r)
    (ho : ∀ data d, o = .good 0x00 data → descriptorOf data = some d → W → descriptorLawful d) (h : P s) :
    P (takeDescribeOutcome r o s) := by
  unfold takeDescribeOutcome
  split
  · exact h
  · split
    · rename_i d hd
      refine R.keeps_closeRound (r := r) hr ⟨fun e => ⟨e, rfl, rfl⟩, fun e => ⟨e, rfl⟩⟩ (R.described s _ d _ ?_ h)
      unfold describeGood at hd
      split at hd
      · split at hd
        · rename_i hs
          subst hs
          exact ho _ d rfl hd
        · cases hd
      · cases hd
    · split
      · exact R.changes _ _
          (R.roundMoves s _ r _ hr rfl ⟨fun e => ⟨e, rfl, rfl⟩, fun e => ⟨e, rfl⟩⟩ ⟨rfl, rfl⟩ h)
      · exact h

theorem keeps_takeSurveyOutcome {o : LineOutcome} {t : Transaction} (hu : t.user = .survey) (hq : s.quiet = true)
    (ho : OutcomeFits W A o t s) (h : P s) : P (takeSurveyOutcome o s) := by
  unfold takeSurveyOutcome
  split
  · exact h
  · rename_i r hr
    split
    · rename_i hp
      exact R.keeps_takeSeatOutcome hq hr hp h
    · exact R.keeps_closeRound hr ⟨fun e => ⟨e, rfl, rfl⟩, fun e => ⟨e, rfl⟩⟩ h
    · rename_i hp
      exact R.keeps_takeDescribeOutcome hr (fun data d hg => ho.survey data r d hu hg hr hp) h
    · exact h
    · exact h

theorem keeps_takeBroadcastOutcome (sent : Bool) (h : P s) : P (takeBroadcastOutcome sent s) := by
  unfold takeBroadcastOutcome
  split
  · exact h
  · rename_i r hr
    have hclose : ∀ e, P (closeRound e r s) := fun e =>
      R.keeps_closeRound hr ⟨fun e => ⟨e, rfl, rfl⟩, fun e => ⟨e, rfl⟩⟩ h
    split
    · split
      · exact h
      · exact hclose _
    · exact hclose _
    · exact h
    · exact h
    · exact h

theorem keeps_deliver {t : Transaction} {o : LineOutcome} (hq : s.quiet = true) (ho : OutcomeFits W A o t s) (h : P s) :
    P (deliver t o s) := by
  unfold deliver
  split
  · exact h
  · split
    · rename_i hu _
      exact R.keeps_takePollOutcome hu ho h
    · rename_i hu _
      exact R.keeps_takePoolOutcome hu hq ho h
    · rename_i hu _
      exact R.keeps_takeSurveyOutcome hu hq ho h
    · exact h

/-! ## The next frame -/

theorem keeps_attempt {r : PoolRequest} (ht : s.line.txn = none) (hr : s.pool.inFlight = some r) (h : P s) :
    P (beginPoolAttempt r s) := by
  have hq : s.quiet = true := by simp [State.quiet, ht]
  refine R.begun _ _ _ ht ⟨fun _ => ⟨_, rfl, ?_⟩, nofun⟩
    (R.pool s _ (Pool.tags_attempted hr _) (.inl hq) h)
  cases hw : r.work <;> simp [requestFrameOf, hw]

theorem keeps_grantPoll {i : Slot} (ht : s.line.txn = none) (h : P s) : P (grantPoll i s) :=
  R.begun _ _ _ ht ⟨nofun, nofun⟩
    (R.lineMarked _ _ ⟨rfl, rfl, rfl, rfl, rfl⟩ (R.undue s i h))

theorem keeps_startRequest {r : PoolRequest} {rest : List PoolRequest} (ht : s.line.txn = none)
    (hr : s.pool.queued = r :: rest) (h : P s) : P (startRequest r rest s) := by
  have hq : s.quiet = true := by simp [State.quiet, ht]
  have hgranted := R.lineMarked s { s.line with lastGrant := .pool } ⟨rfl, rfl, rfl, rfl, rfl⟩ h
  have hstarted := R.pool (s.setLine { s.line with lastGrant := .pool })
    { s.pool with queued := rest, inFlight := some r } (Pool.tags_started hr) (.inl hq) hgranted
  unfold startRequest
  dsimp only
  split
  · exact R.keeps_completeRequest rfl hq (nofun) hstarted
  · exact R.keeps_completeRequest rfl hq (nofun) hstarted
  · exact R.keeps_attempt ht rfl hstarted
  · exact R.keeps_attempt ht rfl hstarted
  · exact R.keeps_attempt ht rfl hstarted

theorem keeps_arbitrate : ∀ (n : Nat) {s : State}, s.line.txn = none → P s → P (arbitrate n s)
  | 0, _, _, h => h
  | n + 1, s, ht, h => by
    unfold arbitrate
    split
    · exact R.keeps_grantPoll ht h
    · rename_i hq
      have hstarted := R.keeps_startRequest ht hq h
      dsimp only
      split
      · exact hstarted
      · rename_i hn
        exact keeps_arbitrate n (by simpa using hn) hstarted
    · exact h

theorem keeps_beginSurveyFrame (ht : s.line.txn = none) (hl : s.line.state = .survey) (h : P s) :
    P (beginSurveyFrame s) := by
  unfold beginSurveyFrame
  split
  · exact R.begun _ _ _ ht ⟨nofun, fun r _ hr hp => by cases hr; cases hp⟩
      (R.roundBegins s _ hl ht ⟨rfl, rfl⟩ rfl h)
  · rename_i r hr
    have hmoved : ∀ n, P (s.setRound (some { r with attempts := n })) := fun n =>
      R.roundMoves s _ r _ hr rfl ⟨fun e => ⟨e, rfl, rfl⟩, fun e => ⟨e, rfl⟩⟩ ⟨rfl, rfl⟩ h
    split
    · rename_i hp hc
      exact R.begun _ _ _ ht
        ⟨nofun, fun r' _ hr' hp' => by cases hr'; exact absurd (hp.symm.trans hp') (by decide)⟩ (hmoved _)
    · rename_i i hp hc
      exact R.begun _ _ _ ht ⟨nofun, fun r' _ hr' _ => by cases hr'; exact ⟨i, hc, rfl⟩⟩ (hmoved _)
    · rename_i hp hc
      exact R.begun _ _ _ ht
        ⟨nofun,
          fun r' _ hr' hp' => by cases hr.symm.trans hr'; exact absurd (hp.symm.trans hp') (by decide)⟩ h
    · rename_i hp
      refine R.begun _ _ _ ht
        ⟨nofun,
          fun r' _ hr' hp' => by cases hr.symm.trans hr'; exact absurd (hp.symm.trans hp') (by decide)⟩
        (R.roundMoves s _ r r hr hr ⟨fun e => ⟨e, rfl, rfl⟩, fun e => ⟨e, rfl⟩⟩ ⟨rfl, rfl⟩ h)
    · exact h
    · exact h
    · exact h
    · exact h

theorem keeps_repeat {f : LineFrame} {u : LineUser} (ht : s.line.txn = none) (hp : u ≠ .pool) (hs : u ≠ .survey)
    (h : P s) : P (beginFrame f u s) :=
  R.begun _ _ _ ht ⟨fun hu => absurd hu hp, fun _ hu => absurd hu hs⟩ h

theorem keeps_beginWork (ht : s.line.txn = none) (h : P s) : P (beginWork s) := by
  unfold beginWork
  split
  · exact h
  · split
    · exact R.keeps_repeat ht (by decide) (by decide) h
    · exact h
  · split
    · rename_i hr
      exact R.keeps_attempt ht hr h
    · split
      · exact R.keeps_repeat ht (by decide) (by decide) h
      · exact R.keeps_arbitrate _ ht h
  · rename_i hl
    split
    · rename_i hr
      exact R.keeps_attempt ht hr h
    · unfold beginSurveyWork
      split
      · exact h
      · exact R.keeps_beginSurveyFrame ht hl h

theorem keeps_service (h : P s) : P (service s) := by
  unfold service
  split
  · rename_i hallows
    have ht : s.line.txn = none := by
      simp only [State.lineAllows, Bool.and_eq_true, Option.isNone_iff_eq_none] at hallows
      exact hallows.1
    split
    · rename_i o rest ho
      exact R.keeps_repeat (s := s.setLine _) ht (by decide) (by decide)
        (R.owedBegins s o rest _ ho (Nat.succ_pos _) h)
    · exact R.keeps_beginWork ht h
  · exact h

theorem keeps_takeHold (h : P s) : P (takeHold s) := by
  unfold takeHold
  split
  · have hcleared := R.faultUnit s { s.faults with holdAsked := false } rfl h
    by_cases hl : s.line.state = .held
    · exact (holdEntry_held (s := { s with faults := { s.faults with holdAsked := false } }) hl).symm ▸ hcleared
    · exact R.holds _ hl hcleared
  · exact h

theorem keeps_settle (h : P s) : P (settle s) := R.keeps_service (R.keeps_takeHold h)

/-! ## The end of a frame and of SPACE -/

theorem keeps_nodesLeave (h : P s) : P s.nodesLeave := R.nodes _ _ h

theorem keeps_endRound {e : RoundEnd} (hr : s.survey.round.isSome = true) (ht : s.line.txn = none) (h : P s) :
    P (endRound e s) := by
  have hruns : s.survey.stopping = true → s.surveyFrameRuns = false := fun _ => by simp [State.surveyFrameRuns, ht]
  obtain ⟨r, hround⟩ := Option.isSome_iff_exists.1 hr
  have hcounted : ∀ (n m : Nat), P (s.setSurvey
      { s.survey with record := { s.survey.record with failedRounds := n }, failures := m }) := fun n m =>
    R.roundMoves s _ r r hround hround ⟨fun e => ⟨e, rfl, rfl⟩, fun e => ⟨e, rfl⟩⟩ ⟨rfl, rfl⟩ h
  have hfinish : ∀ (n m : Nat) (result : SurveyState), result ≠ .running → P (finishSurvey result (s.setSurvey
      { s.survey with record := { s.survey.record with failedRounds := n }, round := none, failures := m })) :=
    fun n m result hne =>
    R.surveyEnds (s.setSurvey { s.survey with record := { s.survey.record with failedRounds := n }, failures := m })
      result hne hr (fun _ => by simp [State.surveyFrameRuns, ht]) (hcounted n m)
  unfold endRound
  dsimp only
  generalize (if decide (e = .failed) = true then s.survey.record.failedRounds + 1 else _) = n
  generalize (if decide (e = .failed) = true then s.survey.failures + 1 else _) = m
  split
  · exact hfinish _ _ .failed (by decide)
  · split
    · exact hfinish _ _ .limit (by decide)
    · exact R.roundEnds s
        { s.survey with record := { s.survey.record with failedRounds := n }, round := none, failures := m }
        hr hruns rfl ⟨rfl, rfl⟩ h

theorem keeps_owedFrameDone (h : P s) : P (owedFrameDone s) := by
  unfold owedFrameDone
  split
  · exact h
  · rename_i o rest ho
    split
    · have hleft := R.owedEnds s o rest ho h
      unfold owedDone
      split
      · exact hleft
      · exact hleft
      · unfold startHaltTimer
        split
        · rename_i hheld
          exact R.haltTimer _ hheld.1 hleft
        · exact hleft
      · exact R.directoryCleared _ hleft
    · exact h

theorem keeps_spaceDone {t : Transaction} (ht : s.line.txn = some t) (hp : t.phase = .space) (h : P s) :
    P (spaceDone t s) := by
  have hfree : P (s.nodesLeave.setTxn none) := R.released _ t ht hp (R.keeps_nodesLeave h)
  unfold spaceDone
  dsimp only
  split
  · exact R.keeps_owedFrameDone hfree
  · unfold surveySpaceDone
    split
    · exact hfree
    · rename_i r hr
      split
      · exact R.keeps_endRound (by rw [hr]; rfl) rfl hfree
      · exact hfree
  · exact hfree
  · exact hfree
  · exact hfree
  · exact hfree

omit R in
theorem keeps_onPhase {p : LinePhase} {f : Transaction → State → State}
    (hf : ∀ t, s.line.txn = some t → t.phase = p → P (f t s)) (h : P s) : P (onPhase p f s) := by
  unfold onPhase
  split
  · rename_i t ht
    split
    · rename_i hp
      exact hf t ht hp
    · exact h
  · exact h

end StepRules

end Sys2Proof.Machine
end
section
/-! PROOFS. A law whose elementary changes keep it is kept by every event of the node line and of time. -/

namespace Sys2Proof.Machine

variable {W A S : Prop} {P : State → Prop} {s : State}

/-! ## What a judged answer brings (R31, R32) -/

theorem descriptorLawful_of_fits {data : List Byte} {d : Descriptor} (hf : descriptorFits data = true)
    (hd : descriptorOf data = some d) : descriptorLawful d := by
  unfold descriptorFits at hf
  split at hf
  · simp only [Bool.and_eq_true, decide_eq_true_eq] at hf
    obtain ⟨⟨⟨_, hlow⟩, hhigh⟩, htags⟩ := hf
    simp only [descriptorOf, Option.map_eq_some_iff] at hd
    obtain ⟨k, _, rfl⟩ := hd
    exact ⟨hlow, hhigh, htags⟩
  · cases hf

/-- R31: no fitting answer has more than 17 data bytes, where no report length is above 16. -/
theorem answerFits_length {c : LineCommand} {n : Option Nat} {status : Byte} {data : List Byte}
    (h : answerFits c n status data = true) (hn : ∀ k, n = some k → k ≤ 16) : data.length ≤ 17 := by
  have hempty : data.isEmpty = true → data.length ≤ 17 := fun he => by simp [List.isEmpty_iff.1 he]
  cases c <;> simp only [answerFits, Bool.false_eq_true] at h
  case desc =>
    split at h
    · unfold descriptorFits at h
      split at h
      · simp only [Bool.and_eq_true, decide_eq_true_eq] at h
        simp only [List.length_cons]
        omega
      · cases h
    · exact hempty h
  case poll =>
    split at h
    · split at h
      · rename_i k
        have := hn k rfl
        simp only [decide_eq_true_eq] at h
        omega
      · cases h
    · simp only [decide_eq_true_eq] at h
      omega
  case get =>
    split at h
    · simp only [Bool.and_eq_true, decide_eq_true_eq] at h
      omega
    · exact hempty h
  case seat =>
    split at h
    · simp only [decide_eq_true_eq] at h
      omega
    · exact hempty h
  case echo =>
    split at h
    · simp only [decide_eq_true_eq] at h
      omega
    · exact hempty h
  case put => exact hempty h
  case unseat => exact hempty h

/-- R32: an answer is judged GOOD only where it fits. -/
theorem judgeAnswer_good {c : LineCommand} {n : Option Nat} {chars data : List Byte} {status : Byte}
    (h : judgeAnswer c n chars = .good status data) : answerFits c n status data = true := by
  unfold judgeAnswer at h
  split at h
  · split at h
    · rename_i hfit
      cases h
      exact hfit.2
    · cases h
  · cases h

theorem expectedLength_le (hdir : directoryLawful s) (t : Transaction) :
    ∀ k, expectedLength t s = some k → k ≤ 16 := by
  intro k hk
  unfold expectedLength at hk
  split at hk
  · rename_i i _
    simp only [Option.map_eq_some_iff] at hk
    obtain ⟨d, hd, rfl⟩ := hk
    obtain ⟨_, _, _, hlawful⟩ := hdir i
    exact (hlawful d hd).2.1
  · cases hk

/-- What an answer that is taken brings, as far as the entries and the work on the line are known. -/
theorem outcomeFits_judged {t : Transaction} {status : Byte} {data : List Byte} (hA : A)
    (hW : W → directoryLawful s ∧ workLawful s) (ht : s.line.txn = some t) (hp : t.phase = .receive)
    (ha : t.aborted = none) (hfit : answerFits t.frame.command (expectedLength t s) status data = true) :
    OutcomeFits W A (.good status data) t s := by
  have hwork := fun w => (hW w).2 t ht ha (.inr (.inr hp))
  have hdesc : ∀ d, status = 0x00 → t.frame.command = .desc → descriptorOf data = some d → descriptorLawful d := by
    intro d hs hc hd
    simp only [hc, hs, answerFits, if_true] at hfit
    exact descriptorLawful_of_fits hfit hd
  refine ⟨?_, ?_, ?_⟩
  · intro st sequence payload _ ho _
    cases ho
    refine ⟨hA, fun w => ?_⟩
    have := answerFits_length hfit (expectedLength_le (hW w).1 t)
    simp only [List.length_cons] at this
    omega
  · intro data' r d hu ho hr hw hd w
    cases ho
    obtain ⟨r', hr', hframe⟩ := (hwork w).1 hu
    cases hr.symm.trans hr'
    exact hdesc d rfl (by simp [hframe, requestFrameOf, hw]) hd
  · intro data' r d hu ho hr hdescribe hd w
    cases ho
    obtain ⟨i, _, hframe⟩ := (hwork w).2 r hu hr hdescribe
    exact hdesc d rfl (by rw [hframe]; rfl) hd

/-! ## The end of a contest -/

theorem takeReading_stopping {reading : Reading} (h : s.survey.stopping = true) : takeReading reading s = s := by
  unfold takeReading
  split
  · rw [if_pos (.inl h)]
  · rfl

theorem judgeReading_stopping {r : Round} {reading : Reading} (h : s.survey.stopping = false) :
    (judgeReading r reading s).survey.stopping = false := by
  have hclose : ∀ x, (closeRound .failed x s).survey.stopping = false := fun _ => h
  unfold judgeReading
  dsimp only
  split
  · exact hclose _
  · split
    · split
      · simp [finishSurvey, h]
      · exact hclose _
    · split
      · exact hclose _
      · unfold takeWinner
        split
        · exact h
        · rw [raise_eq, occur_survey]
          exact h

theorem takeReading_goesOn {reading : Reading} (h : s.survey.stopping = false) :
    (takeReading reading s).survey.stopping = false := by
  unfold takeReading
  split
  · split
    · exact h
    · exact judgeReading_stopping h
  · exact h

namespace StepRules

variable (R : StepRules W A S P)
include R

/-! ## Frames and answers -/

theorem keeps_nodesHear (f : LineFrame) (missed : List Nat) (h : P s) : P (s.nodesHear f missed) := R.nodes _ _ h

theorem keeps_commandEnds (missed : List Nat) (h : P s) : P (commandEnds missed s) := by
  refine keeps_onPhase (fun t ht hp => ?_) h
  split
  · exact R.frameEnds _ t .wait ht (.inl hp) (.inr ⟨rfl, hp⟩) (R.keeps_nodesHear _ _ h)
  · exact h

theorem keeps_broadcastEnds (missed : List Nat) (h : P s) : P (broadcastEnds missed s) := by
  refine keeps_onPhase (fun t ht hp => ?_) h
  have hheard := R.keeps_nodesHear t.frame missed h
  dsimp only
  split
  · exact h
  · split
    · exact R.contestBegins _ t _ ht hp hheard
    · have hspaced := R.frameEnds (s.nodesHear t.frame missed) t .space ht (.inl hp) (.inl rfl) hheard
      split
      · exact R.keeps_takeBroadcastOutcome true hspaced
      · exact hspaced

theorem keeps_answerStarts (h : P s) : P (answerStarts s) :=
  keeps_onPhase (fun t ht hp => R.windowEnds s t .receive ht hp (.inl rfl) h) h

theorem keeps_windowCloses (h : P s) : P (windowCloses s) :=
  keeps_onPhase
    (fun t ht hp =>
      R.keeps_settle (R.keeps_deliver (by simp [toPhase, State.quiet, State.setTxn])
        (outcomeFits_silent t _) (R.windowEnds s t .space ht hp (.inr rfl) h))) h

omit R in
/-- Where SPACE has begun the line is quiet. -/
theorem quiet_spaced (t : Transaction) (u : State) : (frameBoundary (toPhase .space t u)).quiet = true := by
  simp [State.quiet, toPhase, State.setTxn]

omit R in
theorem quiet_raiseForFrame (k : FaultKind) (f : LineFrame) (u : State) : (raiseForFrame k f u).quiet = u.quiet := by
  simp [State.quiet, raiseForFrame, raise_eq]

theorem keeps_brokenAfter {k : FaultKind} {t : Transaction} {u : State}
    (h : P (frameBoundary (toPhase .space t u))) :
    P (deliver t .broken (raiseForFrame k t.frame (frameBoundary (toPhase .space t u)))) :=
  R.keeps_deliver ((quiet_raiseForFrame _ _ _).trans (quiet_spaced t u)) (outcomeFits_broken t _)
    (R.keeps_raiseForFrame _ _ h)

theorem keeps_answerEnds (hA : A) (hW : W → directoryLawful s ∧ workLawful s) (chars : List Byte) (h : P s) :
    P (answerEnds chars s) := by
  refine keeps_onPhase (fun t ht hp => ?_) h
  have hspaced : P (frameBoundary (toPhase .space t s.nodesLeave)) :=
    R.frameEnds _ t .space ht (.inr (.inl hp)) (.inl rfl) (R.keeps_nodesLeave h)
  dsimp only
  split
  · exact R.keeps_settle hspaced
  · rename_i ha
    split
    · rename_i status data hj
      have hfits : OutcomeFits W A (.good status data) t s :=
        outcomeFits_judged hA hW ht hp (by simpa using ha) (judgeAnswer_good hj)
      refine R.keeps_settle (R.keeps_deliver (quiet_spaced t _) ?_ hspaced)
      exact hfits.boundary (by simp [toPhase, State.setTxn, State.nodesLeave])
        (frameBoundary_round (toPhase .space t s.nodesLeave))
    · exact R.keeps_settle hspaced
    · exact R.keeps_settle (R.keeps_brokenAfter hspaced)

theorem keeps_answerOverruns (h : P s) : P (answerOverruns s) := by
  refine keeps_onPhase (fun t ht hp => ?_) h
  split
  · exact h
  · exact R.keeps_settle (R.keeps_brokenAfter (R.frameEnds s t .space ht (.inr (.inl hp)) (.inl rfl) h))

theorem keeps_lineHeldLow (h : P s) : P (lineHeldLow s) := by
  unfold lineHeldLow
  split
  · exact h
  · exact R.lineMarked s _ ⟨rfl, rfl, rfl, rfl, rfl⟩ h

theorem keeps_collide (h : P s) : P (collide s) := by
  unfold collide
  split
  · exact R.keeps_lineHeldLow h
  · rename_i t ht
    split
    · rename_i hp
      have hspaced := R.frameEnds s t .space ht (.inl hp) (.inl rfl) h
      dsimp only
      split
      · exact R.keeps_settle (R.keeps_brokenAfter hspaced)
      · split
        · exact R.keeps_settle (R.keeps_takeBroadcastOutcome false (R.keeps_raiseForFrame _ _ hspaced))
        · exact R.keeps_settle (R.keeps_raiseForFrame _ _ hspaced)
    · rename_i hp
      split
      · exact h
      · exact R.keeps_settle (R.keeps_brokenAfter (R.frameEnds s t .space ht (.inr (.inl hp)) (.inl rfl) h))
    · split
      · exact h
      · exact R.keeps_settle (R.keeps_raiseForFrame _ _ (R.txnMarked s t t.contestBroken true ht h))
    · exact h
    · exact h

theorem keeps_lineLetGo (h : P s) : P (lineLetGo s) := by
  unfold lineLetGo
  split
  · exact R.keeps_settle (R.lineMarked s { s.line with dominant := false } ⟨rfl, rfl, rfl, rfl, rfl⟩ h)
  · exact h

theorem keeps_spaceEnds (h : P s) : P (spaceEnds s) := by
  unfold spaceEnds
  split
  · exact R.keeps_lineLetGo h
  · rename_i t ht
    split
    · rename_i hp
      exact R.keeps_settle (R.keeps_spaceDone ht hp h)
    · exact h

theorem keeps_contestEnds (lead : BitVec 2) (slots : BitVec 168) (h : P s) : P (contestEnds lead slots s) := by
  refine keeps_onPhase (fun t ht hp => R.keeps_settle ?_) h
  generalize hl : s.contestReading slots = levels
  generalize hb : (s.contestHit lead slots || t.contestBroken) = bad
  have hended : P (frameBoundary (toPhase .space t (s.nodesContend levels))) :=
    R.frameEnds _ t .space ht (.inr (.inr hp)) (.inl rfl) (R.nodes s _ h)
  have hraised : ∀ u, P (frameBoundary u) →
      P (frameBoundary (if bad then raiseForFrame .badCheck t.frame u else u)) := by
    intro u hu
    split
    · rw [raiseForFrame, raise_eq, frameBoundary_occur]
      exact R.keeps_occur _ _ _ _ hu
    · exact hu
  have hsame : ∀ u : State, (if bad then raiseForFrame .badCheck t.frame u else u).survey = u.survey := by
    intro u
    split
    · rw [raiseForFrame, raise_eq, occur_survey]
    · rfl
  cases hs : s.survey.stopping
  · have hgoes : (if bad then raiseForFrame .badCheck t.frame (toPhase .space t (s.nodesContend levels))
        else toPhase .space t (s.nodesContend levels)).survey.stopping = false := by
      rw [hsame]
      exact hs
    rw [frameBoundary_none (takeReading_goesOn hgoes)]
    refine R.keeps_takeReading hgoes ?_
    rw [← frameBoundary_none hgoes]
    exact hraised _ hended
  · rw [takeReading_stopping (by rw [hsame]; exact hs)]
    exact hraised _ hended

/-! ## Timers and stuck episodes -/

omit R in
theorem txn_of_lineAllows (h : s.lineAllows = true) : s.line.txn = none := by
  simp only [State.lineAllows, Bool.and_eq_true, Option.isNone_iff_eq_none] at h
  exact h.1

theorem keeps_keepDue (h : P s) : P (keepDue s) := by
  unfold keepDue
  split
  · split
    · rename_i hallows
      exact R.keeps_repeat (txn_of_lineAllows hallows) (by decide) (by decide) h
    · split
      · exact R.lineMarked s _ ⟨rfl, rfl, rfl, rfl, rfl⟩ h
      · exact h
  · exact h

theorem keeps_haltDue (h : P s) : P (haltDue s) := by
  unfold haltDue
  split
  · split
    · rename_i hallows
      exact R.keeps_repeat (txn_of_lineAllows hallows) (by decide) (by decide) h
    · split
      · exact R.lineMarked s _ ⟨rfl, rfl, rfl, rfl, rfl⟩ h
      · exact h
  · exact h

theorem keeps_lineSticks (h : P s) : P (lineSticks s) := by
  unfold lineSticks
  split
  · exact h
  · refine R.keeps_settle (R.keeps_raise _ _ _ ?_)
    have hmarked := R.lineMarked s { s.line with stuck := true, dominant := false } ⟨rfl, rfl, rfl, rfl, rfl⟩ h
    cases ht : s.line.txn with
    | none =>
      rw [Option.map_none, ← ht]
      exact hmarked
    | some t =>
      rw [Option.map_some]
      split
      · exact R.txnMarked (s.setLine { s.line with stuck := true, dominant := false }) t true t.spaceHit ht hmarked
      · rw [← ht]
        exact hmarked

theorem keeps_stuckEnds (h : P s) : P (stuckEnds s) := by
  unfold stuckEnds
  have hclear := R.lineMarked s { s.line with stuck := false, dominant := false } ⟨rfl, rfl, rfl, rfl, rfl⟩ h
  split
  · dsimp only
    split
    · rename_i t ht
      split
      · rename_i hp
        exact R.keeps_settle (R.keeps_spaceDone ht hp hclear)
      · exact hclear
    · exact R.keeps_settle hclear
  · exact h

omit R in
theorem keeps_whenLive {f : State → State} (hf : P s → P (f s)) (h : P s) : P (whenLive f s) := by
  unfold whenLive
  split
  · exact hf h
  · exact h

/-! ## Time -/

theorem keeps_deadlineExpires (k : FaultKind) (h : P s) : P (deadlineExpires k s) := by
  unfold deadlineExpires
  split
  · rename_i he
    exact R.keeps_settle (R.faultUnit _ _ rfl (R.escalates s k he h))
  · exact h

theorem keeps_countLate (h : P s) : P (countLate s) := by
  unfold countLate
  split
  · exact R.late _ _ h
  · exact h

theorem keeps_cycleExpires (h : P s) : P (cycleExpires s) := by
  unfold cycleExpires
  split
  · rename_i hd
    refine R.keeps_settle (R.cycles _ ?_ (R.keeps_countLate h))
    have hstate : (countLate s).line.state = s.line.state := by unfold countLate; split <;> rfl
    unfold cycleDue at hd
    split at hd
    · simp only [Bool.and_eq_true, decide_eq_true_eq] at hd
      rw [hstate]
      exact hd.2
    · cases hd
  · exact h

theorem keeps_settleDue (h : P s) : P (settleDue s) := by
  have hall : ∀ (ks : List FaultKind) (u : State), P u → P (ks.foldl (fun u k => deadlineExpires k u) u) := by
    intro ks
    induction ks with
    | nil => exact fun u hu => hu
    | cons k ks ih => exact fun u hu => ih _ (R.keeps_deadlineExpires k hu)
  exact R.keeps_cycleExpires (hall _ _ h)

theorem keeps_elapse : ∀ (n : Nat) {s : State}, P s → P (elapse n s)
  | 0, _, h => h
  | n + 1, _, h => keeps_elapse n (R.time _ 1 (R.keeps_settleDue h))

theorem keeps_startEnds (h : P s) : P (startEnds s) := by
  unfold startEnds
  split
  · exact R.start _ _ h
  all_goals exact h

theorem keeps_tickRunning (h : P s) : P (tickRunning s) := by
  unfold tickRunning
  split
  · exact R.keeps_deadlineExpires _ h
  · split
    · exact R.keeps_cycleExpires h
    · exact R.time s 1 h

theorem keeps_tick (h : P s) : P (tick s) := by
  unfold tick
  split
  · exact h
  · exact h
  · exact R.keeps_startEnds h
  · exact R.start _ _ h
  · exact R.keeps_tickRunning h

/-! ## Starts and settings -/

theorem keeps_cutWrite (h : P s) : P (cutWrite s) := by
  unfold cutWrite
  split
  · exact R.settings { s with freeIndex := s.freeIndex + 1 } _ (R.index s _ h)
  · exact h

theorem keeps_beginStart (hS : S) (causes : BitVec 3) (h : P s) : P (beginStart causes s) := by
  have hcaused := R.start _ { (cutWrite s).start with causes } (R.keeps_cutWrite h)
  unfold beginStart
  dsimp only
  split
  · exact R.start _ _ (R.reset hS _ hcaused)
  · exact R.start _ _ (R.load hS _ hcaused)

theorem keeps_powerDown (hS : S) (h : P s) : P (powerDown s) := R.start _ _ (R.reset hS _ (R.keeps_cutWrite h))

theorem keeps_pinFalls (hS : S) (h : P s) : P (pinFalls s) := by
  unfold pinFalls
  dsimp only
  split
  · exact R.start _ _ h
  · exact R.keeps_beginStart hS _ (R.start _ _ h)

theorem keeps_pinRises (hS : S) (h : P s) : P (pinRises s) := by
  unfold pinRises
  dsimp only
  split
  · exact R.start _ _ (R.load hS _ (R.start _ _ h))
  · exact R.start _ _ h

theorem keeps_writeEnds (h : P s) : P (writeEnds s) := by
  unfold writeEnds
  split
  · exact R.settings _ _ h
  · exact h

theorem keeps_markEnds (h : P s) : P (markEnds s) := by
  unfold markEnds
  split
  · exact R.settings _ _ h
  · exact h

theorem keeps_readbackEnds (found : SettingsImage) (h : P s) : P (readbackEnds found s) := by
  unfold readbackEnds
  split
  · split
    · exact R.settings _ _ h
    · exact R.settings _ _ h
  · exact h

end StepRules

end Sys2Proof.Machine
end
section
/-! PROOFS. A law whose elementary changes keep it is kept by every request, by every command and by every step. -/

namespace Sys2Proof.Machine

variable {W A S : Prop} {P : State → Prop} {s : State}

/-! ## The checks before an owner's decision -/

/-- What every outcome of a decision keeps, the slot check keeps. -/
theorem keeps_withSlot {slot : Byte} {k : Slot → State × Status × List Byte} (h : P s) (hk : ∀ i, P (k i).1) :
    P (withSlot slot s k).1 := by
  unfold withSlot
  split
  · exact h
  · exact hk _

theorem keeps_withNode {slot : Byte} {k : Slot → State × Status × List Byte} (h : P s)
    (hk : ∀ i, (s.entry i).state ≠ .free → P (k i).1) : P (withNode slot s k).1 := by
  refine keeps_withSlot h fun i => ?_
  split
  · exact h
  · rename_i hi
    exact hk i hi

theorem keeps_withRing {slot : Byte} {k : Slot → Ring → State × Status × List Byte} (h : P s)
    (hk : ∀ i r, (s.entry i).state ≠ .free → s.ring i = some r → P (k i r).1) : P (withRing slot s k).1 := by
  refine keeps_withNode h fun i hi => ?_
  split
  · exact h
  · rename_i r hr
    exact hk i r hi hr

theorem keeps_withKind {kind : Byte} {k : FaultKind → State × Status × List Byte} (h : P s) (hk : ∀ f, P (k f).1) :
    P (withKind kind s k).1 := by
  unfold withKind
  split
  · exact h
  · exact hk _

namespace StepRules

variable (R : StepRules W A S P)
include R

theorem keeps_request {code : Byte} {early : Bool} {owner : State → State × Status × List Byte} (h : P s)
    (ho : P (owner s).1) : P (request code early owner s) :=
  request_keeps code early owner s (P := P) h (fun t _ _ _ ht => R.link t _ ht)
    (R.link s _ h) ho

theorem keeps_requestIfFits {fits : Bool} {code : Byte} {owner : State → State × Status × List Byte} (h : P s)
    (ho : P (owner s).1) : P (requestIfFits fits code owner s) := by
  unfold requestIfFits
  split
  · exact R.keeps_request h ho
  · exact R.keeps_request h h

/-! ## The line's requests -/

theorem keeps_ownStartLine (h : P s) : P (ownStartLine s).1 := by
  unfold ownStartLine
  split
  · rename_i hl
    split
    · exact h
    · exact R.keeps_settle (R.runs s (.inl hl) h)
  all_goals exact h

theorem keeps_ownStopLine (h : P s) : P (ownStopLine s).1 := by
  unfold ownStopLine
  split
  · exact h
  · rename_i hl
    exact R.keeps_settle (R.stops s hl h)
  · rename_i hl
    exact R.keeps_settle (R.stopsSurvey s hl h)
  · exact h

theorem keeps_ownHoldLine (h : P s) : P (ownHoldLine s).1 := by
  unfold ownHoldLine
  split
  case h_4 => exact h
  all_goals
    rename_i hl
    exact R.keeps_settle (R.holds s (by simp [hl]) h)

theorem keeps_ownResumeLine (h : P s) : P (ownResumeLine s).1 := by
  unfold ownResumeLine
  split
  case h_4 =>
    rename_i hl
    split
    · exact h
    · exact R.keeps_settle (R.runs _ (.inr hl) (R.owes s .go h))
  all_goals exact h

theorem keeps_ownSetLineRate (rate : Byte) (h : P s) : P (ownSetLineRate rate s).1 := by
  unfold ownSetLineRate
  split
  · split
    · exact R.lineMarked s _ ⟨rfl, rfl, rfl, rfl, rfl⟩ h
    · exact h
  · exact h

theorem keeps_ownSurvey (h : P s) : P (ownSurvey s).1 := by
  unfold ownSurvey
  split
  · rename_i hl
    exact R.surveyBegins s hl h
  all_goals exact h

theorem keeps_ownSetPoll (period : BitVec 16) (missLimit : Byte) (h : P s) : P (ownSetPoll period missLimit s).1 := by
  unfold ownSetPoll
  split
  · rename_i hr
    obtain ⟨_, _, hlow, _⟩ := hr
    exact R.polls s _ _ hlow h
  · exact h

/-! ## The directory's requests -/

theorem keeps_ownPause (slot : Byte) (h : P s) : P (ownPause slot s).1 := by
  refine keeps_withSlot h fun i => ?_
  split
  · rename_i hi
    exact R.paused s i hi h
  all_goals exact h

theorem keeps_ownActivate (slot : Byte) (h : P s) : P (ownActivate slot s).1 := by
  refine keeps_withSlot h fun i => ?_
  split
  · rename_i hi
    exact R.activated s i hi h
  all_goals exact h

theorem keeps_ownForget (slot : Byte) (h : P s) : P (ownForget slot s).1 := by
  refine keeps_withSlot h fun i => ?_
  split
  · exact h
  · split
    case h_5 => exact R.freed s i h
    all_goals exact h

theorem keeps_ownOpenGate (slot : Byte) (h : P s) : P (ownOpenGate slot s).1 := by
  refine keeps_withSlot h fun i => ?_
  split
  · exact h
  · rename_i hl
    split
    · exact h
    · rename_i hi
      split
      · exact h
      · exact R.touched s i _ ⟨hi, rfl, rfl, rfl, rfl, fun _ => .inr hl, .inr (.inl rfl)⟩ h

theorem keeps_ownCloseGate (slot : Byte) (h : P s) : P (ownCloseGate slot s).1 :=
  keeps_withNode h fun i hi => R.touched s i _ ⟨hi, rfl, rfl, rfl, rfl, nofun, .inr (.inl rfl)⟩ h

theorem keeps_ownSetGateMode (slot mode : Byte) (h : P s) : P (ownSetGateMode slot mode s).1 := by
  unfold ownSetGateMode
  split
  · exact h
  · exact keeps_withNode h fun i hi => R.touched s i _ ⟨hi, rfl, rfl, rfl, rfl, nofun, .inr (.inl rfl)⟩ h

theorem keeps_ownBind (slot : Byte) (h : P s) : P (ownBind slot s).1 := by
  refine keeps_withSlot h fun i => ?_
  split
  · exact h
  · split
    · exact h
    · exact h
    · split
      · exact h
      · exact R.binds s i _ h

theorem keeps_ownUnbind (slot : Byte) (h : P s) : P (ownUnbind slot s).1 := by
  refine keeps_withSlot h fun i => ?_
  split
  · exact R.unbinds s i h
  · exact h

omit R in
theorem keeps_ownListNodes (first : Byte) (h : P s) : P (ownListNodes first s).1 := keeps_withSlot h fun _ => h

omit R in
theorem keeps_ownNodeInfo (slot : Byte) (h : P s) : P (ownNodeInfo slot s).1 := keeps_withSlot h fun _ => h

/-! ## The report store's requests -/

omit R in
theorem newRing_lawful {base size watermark : Nat} (policy : RingPolicy) (hsize : size ∈ ringSizes)
    (hbase : base % size = 0) (hstore : base + size ≤ 8192) (hmark : watermark ≤ size) :
    ringLawful (newRing base size policy watermark) :=
  ⟨hsize, hbase, hstore, hmark, Nat.lt_of_lt_of_le (show 0 < 64 by decide) (ringSizes_ge hsize), Nat.zero_le _, fun _ => rfl⟩

omit R in
theorem overlapsOther_releaseRing (s : State) (i : Slot) (base size : Nat) :
    (releaseRing i s).overlapsOther i base size = s.overlapsOther i base size := by
  unfold State.overlapsOther
  congr 1
  funext j
  by_cases hj : j = i
  · simp [hj]
  · rw [releaseRing, ring_setRing_ne _ hj]

theorem keeps_ownAssignRing (slot : Byte) (base size : BitVec 16) (policy : Byte) (watermark : BitVec 16) (h : P s) :
    P (ownAssignRing slot base size policy watermark s).1 := by
  unfold ownAssignRing
  split
  · exact h
  · split
    · rename_i p _ hfit
      obtain ⟨hsize, hbase, hstore, hmark⟩ := hfit
      refine keeps_withNode h fun i hi => ?_
      split
      · exact h
      · rename_i ho
        refine R.assigned _ i _ (newRing_lawful p hsize hbase hstore hmark) hi ?_ (R.unassigned s i h)
        have hfree : s.overlapsOther i base.toNat size.toNat = false := by simpa using ho
        exact (overlapsOther_releaseRing s i base.toNat size.toNat).trans hfree
    · exact h

theorem keeps_ownSetRing (slot policy : Byte) (watermark : BitVec 16) (h : P s) :
    P (ownSetRing slot policy watermark s).1 := by
  unfold ownSetRing
  split
  · exact h
  · split
    · exact h
    · refine keeps_withRing h fun i r _ hr => ?_
      split
      · exact h
      · rename_i hw
        refine R.ring s i r _ hr rfl rfl (fun _ hl => ?_) h
        obtain ⟨hsize, hbase, hstore, _, hrest⟩ := hl
        exact ⟨hsize, hbase, hstore, Nat.le_of_not_lt hw, hrest⟩

theorem keeps_ownReleaseRing (slot : Byte) (h : P s) : P (ownReleaseRing slot s).1 :=
  keeps_withRing h fun i _ _ _ => R.unassigned s i h

theorem keeps_ownFetch (slot max : Byte) (h : P s) : P (ownFetch slot max s).1 := by
  unfold ownFetch
  split
  · exact keeps_withRing h fun i r _ hr => R.ring s i r _ hr rfl rfl (fun _ hl => dropRecords_lawful hl _ _) h
  · exact h

omit R in
theorem keeps_ownPeek (slot skip max : Byte) (h : P s) : P (ownPeek slot skip max s).1 := by
  unfold ownPeek
  split
  · exact keeps_withRing h fun _ _ _ _ => h
  · exact h

theorem keeps_ownFlushRing (slot : Byte) (h : P s) : P (ownFlushRing slot s).1 := by
  refine keeps_withRing h fun i r _ hr => R.ring s i r _ hr rfl rfl (fun _ hl => ?_) h
  obtain ⟨hsize, hbase, hstore, hmark, hold, _, _⟩ := hl
  exact ⟨hsize, hbase, hstore, hmark, hold, Nat.zero_le _, fun _ => rfl⟩

omit R in
theorem keeps_ownRingInfo (slot : Byte) (h : P s) : P (ownRingInfo slot s).1 := keeps_withRing h fun _ _ _ _ => h

/-! ## The request pool's requests -/

theorem keeps_enqueue {tag : Byte} {i : Slot} {work : PoolWork} (hi : (s.entry i).state ≠ .free)
    (htag : tag ∉ s.pool.tags) (hsize : s.pool.size < 8) (h : P s) : P (enqueue tag i work s) := by
  have hqueued := R.enqueued s { tag, slot := i, work, attempts := 0 } htag hsize h
  unfold enqueue gateAfter
  split
  · exact R.touched _ i _ ⟨hi, rfl, rfl, rfl, rfl, nofun, .inr (.inl rfl)⟩ hqueued
  · exact R.touched _ i _ ⟨hi, rfl, rfl, rfl, rfl, .inl, .inr (.inl rfl)⟩ hqueued

theorem keeps_ownPoolRequest (tag slot : Byte) (valid : Bool) (work : PoolWork) (h : P s) :
    P (ownPoolRequest tag slot valid work s).1 := by
  unfold ownPoolRequest
  split
  · exact h
  · refine keeps_withSlot h fun i => ?_
    split
    · exact h
    · split
      · exact h
      · rename_i hi
        split
        · exact h
        · rename_i htag
          split
          · exact h
          · rename_i hsize
            split
            · exact h
            · exact R.keeps_settle (R.keeps_enqueue hi htag (by omega) h)

theorem keeps_ownTakeResults (max : Byte) (h : P s) : P (ownTakeResults max s).1 := by
  unfold ownTakeResults
  split
  · exact R.pool s _ (Pool.tags_taken s.pool _) (.inr rfl) h
  · exact h

theorem keeps_ownCancel (tag : Byte) (h : P s) : P (ownCancel tag s).1 := by
  unfold ownCancel
  split
  · exact h
  · split
    · exact R.pool s _ (Pool.tags_cancelled s.pool _) (.inr rfl) h
    · split
      · exact h
      · split
        · exact h
        · exact h

/-! ## The fault unit's requests -/

theorem keeps_ownFaultAck (kind : Byte) (h : P s) : P (ownFaultAck kind s).1 := by
  refine keeps_withKind h fun k => ?_
  split
  · exact R.acknowledges s k h
  · exact R.acknowledges s k h
  · exact h

theorem keeps_ownClearFault (kind : Byte) (h : P s) : P (ownClearFault kind s).1 := by
  refine keeps_withKind h fun k => ?_
  split
  · rename_i ha
    exact R.clears s k ha h
  all_goals exact h

theorem keeps_ownSetReaction (kind reaction : Byte) (h : P s) : P (ownSetReaction kind reaction s).1 := by
  refine keeps_withKind h fun k => ?_
  split
  · exact R.faultUnit s _ rfl h
  · exact h

theorem keeps_ownSetAckWindow (window : BitVec 16) (h : P s) : P (ownSetAckWindow window s).1 := by
  unfold ownSetAckWindow
  split
  · exact R.faultUnit s _ rfl h
  · exact h

theorem keeps_ownInjectFault (kind slot detail : Byte) (h : P s) : P (ownInjectFault kind slot detail s).1 := by
  refine keeps_withKind h fun k => ?_
  split
  · exact h
  · exact R.keeps_settle (R.keeps_occur k slot detail true h)

/-! ## The settings store's and the host link unit's requests -/

theorem keeps_ownStoreSettings (h : P s) : P (ownStoreSettings s).1 := by
  unfold ownStoreSettings
  split
  · exact R.settings s _ h
  · exact h

theorem keeps_ownRestart (h : P s) : P (ownRestart s).1 := by
  unfold ownRestart
  split
  · exact R.link s _ h
  · exact h

theorem keeps_ownSetLinkRate (rate : Byte) (h : P s) : P (ownSetLinkRate rate s).1 := by
  unfold ownSetLinkRate
  split
  · exact h
  · split
    · exact h
    · exact R.link s _ h

theorem keeps_ownSetAttention (enables : Byte) (h : P s) : P (ownSetAttention enables s).1 := by
  unfold ownSetAttention
  split
  · exact R.link s _ h
  · exact h

theorem keeps_applyRate (h : P s) : P (applyRate s) := by
  unfold applyRate
  split
  · exact R.link s _ h
  · exact h

theorem keeps_replyEnds (hS : S) (h : P s) : P (replyEnds s) := by
  unfold replyEnds
  have hsent := R.keeps_applyRate (R.link s { s.link with reply := none, clearMayFollow := false } h)
  split
  · split
    · exact R.keeps_beginStart hS _ h
    · dsimp only
      split
      · exact R.keeps_settle hsent
      · exact hsent
  · exact h

/-! ## The receiver -/

/-- R164: every request that a frame can spell. -/
theorem keeps_takeRequest (c : Instr) (h : P s) : P (takeRequest c s) := by
  cases c with
  | status => exact R.keeps_request h (R.link s _ h)
  | identify => exact R.keeps_request h h
  | readCauses => exact R.keeps_request h h
  | clearCauses => exact R.keeps_request h (R.start s _ h)
  | restart => exact R.keeps_request h (R.keeps_ownRestart h)
  | storeSettings => exact R.keeps_request h (R.keeps_ownStoreSettings h)
  | setLabel label => exact R.keeps_requestIfFits h (R.settings s _ h)
  | setLinkRate rate => exact R.keeps_request h (R.keeps_ownSetLinkRate rate h)
  | setAttention enables => exact R.keeps_request h (R.keeps_ownSetAttention enables h)
  | startLine => exact R.keeps_request h (R.keeps_ownStartLine h)
  | stopLine => exact R.keeps_request h (R.keeps_ownStopLine h)
  | holdLine => exact R.keeps_request h (R.keeps_ownHoldLine h)
  | resumeLine => exact R.keeps_request h (R.keeps_ownResumeLine h)
  | resetLine => exact R.keeps_request h (R.keeps_settle (R.resets s h))
  | setLineRate rate => exact R.keeps_request h (R.keeps_ownSetLineRate rate h)
  | survey => exact R.keeps_request h (R.keeps_ownSurvey h)
  | surveyResult => exact R.keeps_request h (R.link s _ h)
  | setPoll period missLimit => exact R.keeps_request h (R.keeps_ownSetPoll period missLimit h)
  | listNodes first => exact R.keeps_request h (keeps_ownListNodes first h)
  | nodeInfo slot => exact R.keeps_request h (keeps_ownNodeInfo slot h)
  | dirChanges => exact R.keeps_request h (R.changes s _ h)
  | pause slot => exact R.keeps_request h (R.keeps_ownPause slot h)
  | activate slot => exact R.keeps_request h (R.keeps_ownActivate slot h)
  | forget slot => exact R.keeps_request h (R.keeps_ownForget slot h)
  | openGate slot => exact R.keeps_request h (R.keeps_ownOpenGate slot h)
  | closeGate slot => exact R.keeps_request h (R.keeps_ownCloseGate slot h)
  | setGateMode slot mode => exact R.keeps_request h (R.keeps_ownSetGateMode slot mode h)
  | bind slot => exact R.keeps_request h (R.keeps_ownBind slot h)
  | unbind slot => exact R.keeps_request h (R.keeps_ownUnbind slot h)
  | listBindings => exact R.keeps_request h h
  | assignRing slot base size policy watermark =>
    exact R.keeps_request h (R.keeps_ownAssignRing slot base size policy watermark h)
  | setRing slot policy watermark => exact R.keeps_request h (R.keeps_ownSetRing slot policy watermark h)
  | releaseRing slot => exact R.keeps_request h (R.keeps_ownReleaseRing slot h)
  | fetch slot max => exact R.keeps_request h (R.keeps_ownFetch slot max h)
  | peek slot skip max => exact R.keeps_request h (keeps_ownPeek slot skip max h)
  | flushRing slot => exact R.keeps_request h (R.keeps_ownFlushRing slot h)
  | ringInfo slot => exact R.keeps_request h (keeps_ownRingInfo slot h)
  | nodeRead tag slot item => exact R.keeps_request h (R.keeps_ownPoolRequest tag slot _ _ h)
  | nodeWrite tag slot item values => exact R.keeps_requestIfFits h (R.keeps_ownPoolRequest tag slot _ _ h)
  | nodeDescribe tag slot => exact R.keeps_request h (R.keeps_ownPoolRequest tag slot _ _ h)
  | nodeRelease tag slot => exact R.keeps_request h (R.keeps_ownPoolRequest tag slot _ _ h)
  | nodeTest tag slot pattern => exact R.keeps_request h (R.keeps_ownPoolRequest tag slot _ _ h)
  | takeResults max => exact R.keeps_request h (R.keeps_ownTakeResults max h)
  | cancel tag => exact R.keeps_request h (R.keeps_ownCancel tag h)
  | faultSummary => exact R.keeps_request h (R.link s _ h)
  | faultRecord kind => exact R.keeps_request h (keeps_withKind h fun _ => h)
  | faultAck kind => exact R.keeps_request h (R.keeps_ownFaultAck kind h)
  | clearFault kind => exact R.keeps_request h (R.keeps_ownClearFault kind h)
  | setReaction kind reaction => exact R.keeps_request h (R.keeps_ownSetReaction kind reaction h)
  | setAckWindow window => exact R.keeps_request h (R.keeps_ownSetAckWindow window h)
  | injectFault kind slot detail => exact R.keeps_request h (R.keeps_ownInjectFault kind slot detail h)
  | _ => exact h

theorem keeps_answerFrame (code : Byte) (status : Status) (h : P s) : P (answerFrame code status s) := by
  unfold answerFrame
  split
  · exact R.link s _ h
  · exact R.link s _ h

theorem keeps_judgeFrame (body : List Byte) (high low : Byte) (h : P s) : P (judgeFrame body high low s) := by
  unfold judgeFrame
  split
  · split
    · exact R.keeps_takeRequest _ h
    · exact R.keeps_answerFrame _ _ h
  · exact R.keeps_answerFrame _ _ (R.link s _ h)

theorem keeps_setRx (r : Receiver) (h : P s) : P (s.setRx r) := R.link s _ h

theorem keeps_takeByte (b : Byte) (h : P s) : P (takeByte s b) := by
  unfold takeByte
  split
  · unfold takeHunt
    split
    · have hbegun := R.keeps_setRx { Receiver.idle with phase := .length, overrun := s.link.reply.isSome } h
      dsimp only
      split
      · exact R.link _ _ hbegun
      · exact hbegun
    · exact h
  · unfold takeLength
    split
    · exact R.keeps_setRx _ h
    · exact R.keeps_setRx _ (R.link s _ h)
  · exact R.keeps_setRx _ h
  · unfold takeCheck
    split
    · exact R.keeps_setRx _ h
    · split
      · exact R.keeps_setRx _ h
      · exact R.keeps_judgeFrame _ _ _ (R.keeps_setRx _ h)

theorem keeps_takeBytes : ∀ (chars : List Byte) {s : State}, P s → P (chars.foldl takeByte s)
  | [], _, h => h
  | b :: rest, _, h => keeps_takeBytes rest (R.keeps_takeByte b h)

theorem keeps_arrive (chars : List Byte) (h : P s) : P (arrive chars s) := by
  unfold arrive
  split
  · exact R.keeps_setRx _ h
  · exact R.keeps_takeBytes _ h

theorem keeps_gapPasses (h : P s) : P (gapPasses s) := by
  unfold gapPasses
  split
  · exact R.keeps_setRx _ h
  · exact R.link s _ h

theorem keeps_breakChar (levels : List PinLevel) (h : P s) : P (breakChar levels s) := by
  unfold breakChar
  split
  · exact R.keeps_setRx _ (R.link s _ h)
  · exact R.keeps_setRx _ (R.link s _ h)

theorem keeps_arriveWithin (within : Option (List Byte)) (h : P s) : P (arriveWithin within s) := by
  unfold arriveWithin
  split
  · exact R.keeps_arrive _ h
  · exact h

/-! ## The nodes' own events -/

theorem keeps_idleDrop (node : Nat) (h : P s) : P (idleDrop node s) := R.nodes s _ h

theorem keeps_restartNode (node : Nat) (identity : Identity) (descriptor : List Byte) (first : Byte)
    (payloads : List (List Byte)) (condition : NodeCondition) (h : P s) :
    P (restartNode node identity descriptor first payloads condition s) := R.nodes s _ h

end StepRules

/-! ## The commands and the step -/

/-- The commands that can begin a start. -/
def mayStart : Instr → Bool
  | .powerOn | .powerLoss | .resetPinLow | .resetPinHigh | .requestedRestart | .replyEnd => true
  | _ => false

/-- The command that brings an answer. -/
def bringsAnswer : Instr → Bool
  | .answerReceived _ => true
  | _ => false

namespace StepRules

variable (R : StepRules W A S P)
include R

/-- A law that every elementary change keeps is kept by every command, which has an effect and ends in no fault. -/
theorem exec_keeps (c : Instr) (hS : mayStart c = true → S) (hA : bringsAnswer c = true → A)
    (hW : W → directoryLawful s ∧ workLawful s) (h : P s) : ∃ t, exec c s = .next t ∧ P t := by
  have hrequest := R.keeps_takeRequest c h
  cases c with
  | powerOn => exact ⟨_, rfl, R.keeps_beginStart (hS rfl) _ h⟩
  | resetPinLow => exact ⟨_, rfl, R.keeps_pinFalls (hS rfl) h⟩
  | resetPinHigh => exact ⟨_, rfl, R.keeps_pinRises (hS rfl) h⟩
  | requestedRestart =>
    refine ⟨_, rfl, ?_⟩
    split
    · exact R.keeps_beginStart (hS rfl) _ h
    · exact h
  | powerLoss => exact ⟨_, rfl, R.keeps_powerDown (hS rfl) h⟩
  | startDelayEnd => exact ⟨_, rfl, R.keeps_startEnds h⟩
  | requestFrame chars => exact ⟨_, rfl, keeps_whenLive (f := arrive chars) (R.keeps_arrive chars) h⟩
  | frameDiscardedByLen len => exact ⟨_, rfl, keeps_whenLive (f := arrive [len]) (R.keeps_arrive [len]) h⟩
  | overrunFrame chars => exact ⟨_, rfl, keeps_whenLive (f := arrive chars) (R.keeps_arrive chars) h⟩
  | timeoutError chars =>
    exact ⟨_, rfl, keeps_whenLive (f := fun u => gapPasses (arrive chars u))
      (fun h => R.keeps_gapPasses (R.keeps_arrive chars h)) h⟩
  | framingError char =>
    exact ⟨_, rfl, keeps_whenLive (f := fun u => breakChar char.levels (arriveWithin char.within u))
      (fun h => R.keeps_breakChar _ (R.keeps_arriveWithin _ h)) h⟩
  | replyEnd => exact ⟨_, rfl, keeps_whenLive (f := replyEnds) (R.keeps_replyEnds (hS rfl)) h⟩
  | writePhaseEnd => exact ⟨_, rfl, keeps_whenLive (f := writeEnds) R.keeps_writeEnds h⟩
  | markPhaseEnd => exact ⟨_, rfl, keeps_whenLive (f := markEnds) R.keeps_markEnds h⟩
  | readbackEnd found => exact ⟨_, rfl, keeps_whenLive (f := readbackEnds found) (R.keeps_readbackEnds found) h⟩
  | alertDeadlineExpiry kind =>
    exact ⟨_, rfl, keeps_whenLive (fun h => R.keeps_deadlineExpires kind (R.keeps_elapse _ h)) h⟩
  | cycleTimerExpiry =>
    exact ⟨_, rfl, keeps_whenLive (fun h => R.keeps_cycleExpires (R.keeps_elapse _ h)) h⟩
  | commandSent missed => exact ⟨_, rfl, keeps_whenLive (R.keeps_commandEnds missed) h⟩
  | broadcastFrameEnd missed => exact ⟨_, rfl, keeps_whenLive (R.keeps_broadcastEnds missed) h⟩
  | answerStart => exact ⟨_, rfl, keeps_whenLive R.keeps_answerStarts h⟩
  | answerWindowExpiry => exact ⟨_, rfl, keeps_whenLive R.keeps_windowCloses h⟩
  | answerReceived chars => exact ⟨_, rfl, keeps_whenLive (R.keeps_answerEnds (hA rfl) hW chars) h⟩
  | twentyFirstCharacter => exact ⟨_, rfl, keeps_whenLive R.keeps_answerOverruns h⟩
  | collision => exact ⟨_, rfl, keeps_whenLive R.keeps_collide h⟩
  | spaceEnd => exact ⟨_, rfl, keeps_whenLive R.keeps_spaceEnds h⟩
  | contestEnd lead slots => exact ⟨_, rfl, keeps_whenLive (R.keeps_contestEnds lead slots) h⟩
  | keep => exact ⟨_, rfl, keeps_whenLive R.keeps_keepDue h⟩
  | haltRepeat => exact ⟨_, rfl, keeps_whenLive R.keeps_haltDue h⟩
  | lineStuck => exact ⟨_, rfl, keeps_whenLive R.keeps_lineSticks h⟩
  | stuckEpisodeEnd => exact ⟨_, rfl, keeps_whenLive R.keeps_stuckEnds h⟩
  | nodeIdleDrop node => exact ⟨_, rfl, R.keeps_idleDrop node h⟩
  | nodeRestart node identity descriptor first payloads condition =>
    exact ⟨_, rfl, R.keeps_restartNode node identity descriptor first payloads condition h⟩
  | _ => exact ⟨_, rfl, hrequest⟩

/-- A law that every elementary change keeps, whatever the queue holds, is kept by every step. -/
theorem step_keeps (hqueue : ∀ (u : State) q, P u → P { u with pending := q }) (hS : S) (hA : A)
    (hW : W → directoryLawful s ∧ workLawful s) (h : P s) {t : State} (hstep : step s = .next t) : P t := by
  unfold step at hstep
  split at hstep
  · cases hstep
    exact R.keeps_tick h
  · rename_i c rest _
    obtain ⟨u, hu, hP⟩ := R.exec_keeps (s := { s with pending := rest }) c (fun _ => hS) (fun _ => hA) hW (hqueue s rest h)
    cases hu.symm.trans hstep
    exact hP

end StepRules

end Sys2Proof.Machine
end
section
/-! PROOFS. The laws of the fault table, the due set, the miss counts, the pool, the owed sends and report memory: how each
elementary change keeps them. -/

namespace Sys2Proof.Machine

variable (s : State)

/-! ## Aborts, stops and resets, block by block -/

@[simp] theorem abortTransaction_dir : (abortTransaction s).dir = s.dir := by simp [abortTransaction_eq]
@[simp] theorem abortTransaction_sched : (abortTransaction s).sched = s.sched := by simp [abortTransaction_eq]
@[simp] theorem abortTransaction_store : (abortTransaction s).store = s.store := by simp [abortTransaction_eq]
@[simp] theorem abortTransaction_faults : (abortTransaction s).faults = s.faults := by simp [abortTransaction_eq]
@[simp] theorem abortTransaction_survey : (abortTransaction s).survey = s.survey := by simp [abortTransaction_eq]
@[simp] theorem abortTransaction_start : (abortTransaction s).start = s.start := by simp [abortTransaction_eq]
@[simp] theorem abortTransaction_settings : (abortTransaction s).settings = s.settings := by simp [abortTransaction_eq]
@[simp] theorem abortTransaction_link : (abortTransaction s).link = s.link := by simp [abortTransaction_eq]
@[simp] theorem abortTransaction_nodes : (abortTransaction s).nodes = s.nodes := by simp [abortTransaction_eq]
@[simp] theorem abortTransaction_pending : (abortTransaction s).pending = s.pending := by simp [abortTransaction_eq]
@[simp] theorem abortTransaction_pool : (abortTransaction s).pool = s.pool.flightAborted := by simp [abortTransaction_eq]
@[simp] theorem abortTransaction_line :
    (abortTransaction s).line = { s.line with txn := s.line.txn.map toldToEnd } := by simp [abortTransaction_eq]

/-- R136: a line reset, block by block. -/
theorem lineReset_eq :
    lineReset s =
      { clearRounds (stopSurvey s) with
        line :=
          { s.line with
            state := .off
            txn := s.line.txn.map toldToEnd
            owed := s.line.owed.filter (fun o => !supersededBy .unseatAll o) ++ [{ command := .unseatAll, framesBegun := 0 }]
            silence := false
            keepWaiting := false
            haltTimer := false
            haltWaiting := false }
        sched := { s.sched with due := allCells 32 false, cycle := none }
        pool := s.pool.allAborted } := by
  have hsame : ∀ u : State, u.line = s.line → u.sched = s.sched → u.pool = s.pool →
      enterOff (addOwed .unseatAll (stopPolling (abortQueued (abortTransaction u)))) =
      { u with
        line :=
          { s.line with
            state := .off
            txn := s.line.txn.map toldToEnd
            owed := s.line.owed.filter (fun o => !supersededBy .unseatAll o) ++ [{ command := .unseatAll, framesBegun := 0 }]
            silence := false
            keepWaiting := false
            haltTimer := false
            haltWaiting := false }
        sched := { s.sched with due := allCells 32 false, cycle := none }
        pool := s.pool.allAborted } := by
    intro u hl hs hp
    rw [abortQueued_abortTransaction, ← hl, ← hs, ← hp]
    rfl
  have hrounds : ∀ u : State, (clearRounds u).line = u.line ∧ (clearRounds u).sched = u.sched ∧
      (clearRounds u).pool = u.pool := by
    intro u
    unfold clearRounds
    split <;> exact ⟨rfl, rfl, rfl⟩
  obtain ⟨hl, hs, hp⟩ := hrounds (stopSurvey s)
  rw [lineReset]
  exact hsame _ (hl.trans (stopSurvey_line s)) (hs.trans (stopSurvey_sched s)) (hp.trans (stopSurvey_pool s))

theorem clearRounds_keeps : (clearRounds s).start = s.start ∧ (clearRounds s).settings = s.settings ∧
    (clearRounds s).dir = s.dir ∧ (clearRounds s).store = s.store ∧ (clearRounds s).faults = s.faults ∧
    (clearRounds s).nodes = s.nodes ∧ (clearRounds s).pending = s.pending := by
  unfold clearRounds
  split <;> exact ⟨rfl, rfl, rfl, rfl, rfl, rfl, rfl⟩

@[simp] theorem lineReset_dir : (lineReset s).dir = s.dir := by
  rw [lineReset_eq]
  exact (clearRounds_keeps _).2.2.1.trans (stopSurvey_dir s)
@[simp] theorem lineReset_store : (lineReset s).store = s.store := by
  rw [lineReset_eq]
  exact (clearRounds_keeps _).2.2.2.1.trans (stopSurvey_store s)
@[simp] theorem lineReset_faults : (lineReset s).faults = s.faults := by
  rw [lineReset_eq]
  exact (clearRounds_keeps _).2.2.2.2.1.trans (stopSurvey_faults s)
@[simp] theorem lineReset_start : (lineReset s).start = s.start := by
  rw [lineReset_eq]
  exact (clearRounds_keeps _).1.trans (stopSurvey_start s)
@[simp] theorem lineReset_pending : (lineReset s).pending = s.pending := by
  rw [lineReset_eq]
  exact (clearRounds_keeps _).2.2.2.2.2.2.trans (stopSurvey_pending s)
@[simp] theorem lineReset_pool : (lineReset s).pool = s.pool.allAborted := by rw [lineReset_eq]

variable {s}

@[simp] theorem holdEntry_faults : (holdEntry s).faults = s.faults := by
  by_cases h : s.line.state = .held
  · rw [holdEntry_held h]
  · rw [holdEntry_eq h]
    exact stopSurvey_faults s
@[simp] theorem holdEntry_store : (holdEntry s).store = s.store := by
  by_cases h : s.line.state = .held
  · rw [holdEntry_held h]
  · rw [holdEntry_eq h]
    exact stopSurvey_store s
@[simp] theorem holdEntry_start : (holdEntry s).start = s.start := by
  by_cases h : s.line.state = .held
  · rw [holdEntry_held h]
  · rw [holdEntry_eq h]
    exact stopSurvey_start s
@[simp] theorem holdEntry_pending : (holdEntry s).pending = s.pending := by
  by_cases h : s.line.state = .held
  · rw [holdEntry_held h]
  · rw [holdEntry_eq h]
    exact stopSurvey_pending s

@[simp] theorem finishSurvey_faults (r : SurveyState) : (finishSurvey r s).faults = s.faults := by simp [finishSurvey]
@[simp] theorem finishSurvey_store (r : SurveyState) : (finishSurvey r s).store = s.store := by simp [finishSurvey]
@[simp] theorem finishSurvey_dir (r : SurveyState) : (finishSurvey r s).dir = s.dir := by simp [finishSurvey]
@[simp] theorem finishSurvey_pool (r : SurveyState) : (finishSurvey r s).pool = s.pool := by simp [finishSurvey]
@[simp] theorem finishSurvey_start (r : SurveyState) : (finishSurvey r s).start = s.start := by simp [finishSurvey]
@[simp] theorem finishSurvey_pending (r : SurveyState) : (finishSurvey r s).pending = s.pending := by
  simp [finishSurvey]

@[simp] theorem startSurvey_faults : (startSurvey s).faults = s.faults := frameBoundary_faults s
@[simp] theorem startSurvey_store : (startSurvey s).store = s.store := frameBoundary_store s
@[simp] theorem startSurvey_dir : (startSurvey s).dir = s.dir := frameBoundary_dir s
@[simp] theorem startSurvey_pool : (startSurvey s).pool = s.pool := frameBoundary_pool s
@[simp] theorem startSurvey_start : (startSurvey s).start = s.start := frameBoundary_start s
@[simp] theorem startSurvey_pending : (startSurvey s).pending = s.pending := frameBoundary_pending s

/-! ## The fault table (R142) -/

theorem faultTableLawful_of_records {t : State} (h : faultTableLawful s) (hr : t.faults.records = s.faults.records) :
    faultTableLawful t := fun k => by
  rw [State.record, hr]
  exact h k

/-- The table stays lawful where one record is replaced by a lawful one. -/
theorem faultTableLawful_setRecord {k : FaultKind} {r : FaultRecord} (h : faultTableLawful s) (hr : recordLawful r) :
    faultTableLawful (s.setRecord k r) := fun l => by
  by_cases e : l = k
  · subst e
    rw [record_setRecord_self]
    exact hr
  · rw [record_setRecord_ne _ e]
    exact h l

theorem recordLawful_blank : recordLawful FaultRecord.blank := by simp [recordLawful, FaultRecord.blank]

theorem faultTable_rules : StepRules False True True faultTableLawful where
  reset _ _ _ k := by
    simp only [State.record, resetBlocks, State.reset, cell_allCells]
    exact recordLawful_blank
  load _ _ _ k := by
    simp only [State.record, resetBlocks, State.reset, loadSettings, loadValues, cell_allCells]
    exact recordLawful_blank
  occurs s k slot detail injected h := by
    have hk := occur_lawful k slot detail injected s h k
    rw [occur_record_self] at hk
    exact faultTableLawful_setRecord h hk
  escalates s k he h := by
    obtain ⟨hfirst, hlatest, hnone, _⟩ := h k
    refine faultTableLawful_setRecord h ⟨hfirst, hlatest, fun hc => ?_, by simp⟩
    simp [State.expired, hnone hc] at he
  acknowledges s k h := by
    obtain ⟨hfirst, hlatest, _, _⟩ := h k
    exact faultTableLawful_setRecord h ⟨hfirst, hlatest, fun _ => rfl, by simp [acknowledged]⟩
  clears s k ha h := by
    obtain ⟨_, _, _, hdeadline⟩ := h k
    exact faultTableLawful_setRecord h ⟨by simp, by simp, fun _ => ha, hdeadline⟩
  faultUnit _ _ hr h := faultTableLawful_of_records h hr
  frameEnds s t p _ _ _ h := faultTableLawful_of_records h (by simp [toPhase, State.setTxn])
  stops s _ h := faultTableLawful_of_records h (by simp)
  stopsSurvey s _ h := faultTableLawful_of_records h (by simp)
  resets s h := faultTableLawful_of_records h (by simp)
  holds s _ h := faultTableLawful_of_records h (by simp)
  surveyBegins s _ h := faultTableLawful_of_records h (by simp)
  surveyEnds s r _ _ _ h := faultTableLawful_of_records h (by simp)

/-! ## Report memory (R91) -/

/-- An elementary change but an answer or a start leaves report memory as it is. -/
theorem memory_rules (m : Memory) : StepRules False False False (fun s => s.store.memory = m) where
  reset h := h.elim
  load h := h.elim
  memory h := h.elim
  frameEnds s t p _ _ _ h := by simpa [toPhase, State.setTxn] using h
  stops s _ h := by simpa using h
  stopsSurvey s _ h := by simpa using h
  resets s h := by simpa using h
  holds s _ h := by simpa using h
  surveyBegins s _ h := by simpa using h
  surveyEnds s r _ _ _ h := by simpa using h

theorem memoryLawful_of_memory {t : State} (h : memoryLawful s) (hm : t.store.memory = s.store.memory) :
    memoryLawful t := by
  rw [memoryLawful, hm]
  exact h

theorem memoryLawful_rules : StepRules False True True memoryLawful where
  reset _ _ _ := rfl
  load _ _ _ := rfl
  memory _ _ _ hm h := hm h
  frameEnds s t p _ _ _ h := memoryLawful_of_memory h (by simp [toPhase, State.setTxn])
  stops s _ h := memoryLawful_of_memory h (by simp)
  stopsSurvey s _ h := memoryLawful_of_memory h (by simp)
  resets s h := memoryLawful_of_memory h (by simp)
  holds s _ h := memoryLawful_of_memory h (by simp)
  surveyBegins s _ h := memoryLawful_of_memory h (by simp)
  surveyEnds s r _ _ _ h := memoryLawful_of_memory h (by simp)

/-! ## The pool (R109) -/

theorem Pool.size_eq_tags (p : Pool) : p.size = p.tags.length := by
  cases h : p.inFlight with
  | none => simp [Pool.size, Pool.tags, h]
  | some r =>
    simp [Pool.size, Pool.tags, h]
    omega

theorem Pool.tags_flightAborted (p : Pool) : p.flightAborted.tags.Perm p.tags := by
  simp only [Pool.flightAborted, Pool.tags, Option.toList, List.map_nil, List.append_nil, List.map_append, List.map_map]
  rw [List.append_assoc]
  refine List.Perm.append_left _ ?_
  refine List.perm_append_comm.trans ?_
  cases p.inFlight <;> exact List.Perm.refl _

theorem Pool.tags_allAborted (p : Pool) : p.allAborted.tags.Perm p.tags := by
  simp only [Pool.allAborted, Pool.tags, Option.toList, List.map_nil, List.nil_append, List.map_append, List.map_map]
  refine List.perm_append_comm.trans ?_
  refine List.Perm.append_right _ ?_
  refine List.perm_append_comm.trans ?_
  cases p.inFlight <;> exact List.Perm.refl _

/-- R109: a pool with no tag that a lawful pool has not is lawful. -/
theorem poolLawful_of_tags {t : State} (h : poolLawful s) (hp : TagsWithin t.pool.tags s.pool.tags) : poolLawful t := by
  obtain ⟨hsize, htags⟩ := h
  rw [Pool.size_eq_tags] at hsize
  refine ⟨?_, hp.nodup htags⟩
  rw [Pool.size_eq_tags]
  exact Nat.le_trans hp.length_le hsize

theorem poolLawful_of_pool {t : State} (h : poolLawful s) (hp : t.pool = s.pool) : poolLawful t :=
  poolLawful_of_tags h (tagsWithin_of_perm (by rw [hp]))

theorem pool_rules : StepRules False True True poolLawful where
  reset _ _ _ := ⟨by simp [resetBlocks, State.reset, Pool.size], by simp [resetBlocks, State.reset, Pool.tags]⟩
  load _ _ _ := ⟨by simp [loadSettings, loadValues, resetBlocks, State.reset, Pool.size],
    by simp [loadSettings, loadValues, resetBlocks, State.reset, Pool.tags]⟩
  enqueued s r htag hsize h := by
    obtain ⟨_, hnodup⟩ := h
    have hperm : ({ s.pool with queued := s.pool.queued ++ [r] } : Pool).tags.Perm (r.tag :: s.pool.tags) := by
      simp only [Pool.tags, List.map_append, List.map_cons, List.map_nil, List.append_assoc, List.cons_append,
        List.nil_append]
      exact List.perm_middle
    refine ⟨?_, hperm.nodup_iff.2 (List.nodup_cons.2 ⟨htag, hnodup⟩)⟩
    rw [Pool.size_eq_tags] at hsize ⊢
    have hlen := hperm.length_eq
    simp only [List.length_cons] at hlen
    exact Nat.le_trans (Nat.le_of_eq hlen) hsize
  pool s p hp _ h := poolLawful_of_tags h hp
  frameEnds s t p _ _ _ h := poolLawful_of_pool h (by simp [toPhase, State.setTxn])
  stops s _ h := poolLawful_of_tags h (tagsWithin_of_perm (by simpa using Pool.tags_flightAborted s.pool))
  stopsSurvey s _ h := poolLawful_of_tags h (tagsWithin_of_perm (by simpa using Pool.tags_flightAborted s.pool))
  resets s h := poolLawful_of_tags h (tagsWithin_of_perm (by simpa using Pool.tags_allAborted s.pool))
  holds s hn h := poolLawful_of_tags h (by
    rw [holdEntry_eq hn]
    exact tagsWithin_of_perm (Pool.tags_allAborted s.pool))
  surveyBegins s _ h := poolLawful_of_pool h (by simp)
  surveyEnds s r _ _ _ h := poolLawful_of_pool h (by simp)

end Sys2Proof.Machine
end
section
/-! PROOFS. The laws of the owed sends, the due set, the miss counts and the gates: how each elementary change keeps them. -/

namespace Sys2Proof.Machine

variable {s : State}

/-! ## The owed sends (R128) -/

/-- The list of owed sends after one more is added. -/
def owedWith (c : OwedCommand) (l : List OwedSend) : List OwedSend :=
  l.filter (fun o => !supersededBy c o) ++ [{ command := c, framesBegun := 0 }]

/-- The sends that have not begun, a GO standing for a HALT. -/
def owedNames (l : List OwedSend) : List OwedCommand :=
  (l.filter fun o => decide (o.framesBegun = 0)).map fun o => if o.command = .go then OwedCommand.halt else o.command

/-- The law of the owed sends, of a list. -/
def owedListLawful (l : List OwedSend) : Prop := (∀ o ∈ l.tail, o.framesBegun = 0) ∧ (owedNames l).Nodup

theorem owedLawful_iff : owedLawful s ↔ owedListLawful s.line.owed := Iff.rfl

theorem owedNames_sublist {l l' : List OwedSend} (h : l.Sublist l') : (owedNames l).Sublist (owedNames l') :=
  (h.filter _).map _

theorem mem_tail_of_mem_tail_filter {α : Type} {p : α → Bool} {x : α} :
    ∀ {l : List α}, x ∈ (l.filter p).tail → x ∈ l.tail
  | [], h => h
  | a :: l, h => by
    rw [List.filter_cons] at h
    split at h
    · exact (List.mem_filter.1 h).1
    · exact (List.mem_filter.1 (List.mem_of_mem_tail h)).1

/-- R128: a send that is added keeps the law. -/
theorem owedListLawful_with (c : OwedCommand) {l : List OwedSend} (h : owedListLawful l) :
    owedListLawful (owedWith c l) := by
  obtain ⟨htail, hnodup⟩ := h
  refine ⟨fun o ho => ?_, ?_⟩
  · rcases hf : l.filter (fun o => !supersededBy c o) with _ | ⟨a, rest⟩
    · rw [owedWith, hf] at ho
      cases ho
    · have hrest : ∀ x ∈ rest, x.framesBegun = 0 := fun x hx =>
        htail x (mem_tail_of_mem_tail_filter (p := fun o => !supersededBy c o) (by rw [hf]; exact hx))
      rw [owedWith, hf] at ho
      rcases List.mem_append.1 (show o ∈ rest ++ _ from ho) with ho | ho
      · exact hrest o ho
      · rw [List.mem_singleton.1 ho]
  · have hnames : owedNames (owedWith c l) = owedNames (l.filter fun o => !supersededBy c o) ++
        [if c = .go then OwedCommand.halt else c] := by simp [owedNames, owedWith]
    rw [hnames]
    refine List.nodup_append.2 ⟨hnodup.sublist (owedNames_sublist List.filter_sublist), by simp, ?_⟩
    intro x hx y hy hxy
    rw [List.mem_singleton.1 hy] at hxy
    obtain ⟨o, ho, rfl⟩ := List.mem_map.1 hx
    obtain ⟨hkept, hidle⟩ := List.mem_filter.1 ho
    obtain ⟨_, hkept⟩ := List.mem_filter.1 hkept
    simp only [supersededBy, of_decide_eq_true hidle, decide_true, Bool.true_and, Bool.not_eq_true',
      Bool.or_eq_false_iff, decide_eq_false_iff_not] at hkept
    obtain ⟨⟨hhalt, hgo⟩, hsame⟩ := hkept
    rw [if_neg hgo] at hxy
    split at hxy
    · exact hhalt hxy
    · exact hsame hxy

theorem owedListLawful_rest {o : OwedSend} {rest : List OwedSend} (h : owedListLawful (o :: rest)) :
    owedListLawful rest := by
  obtain ⟨htail, hnodup⟩ := h
  exact ⟨fun x hx => htail x (List.mem_of_mem_tail hx), hnodup.sublist (owedNames_sublist (List.sublist_cons_self _ _))⟩

theorem owedListLawful_begun {o : OwedSend} {rest : List OwedSend} {n : Nat} (h : owedListLawful (o :: rest))
    (hn : 0 < n) : owedListLawful ({ o with framesBegun := n } :: rest) := by
  obtain ⟨htail, hnodup⟩ := h
  refine ⟨htail, ?_⟩
  have hnames : owedNames ({ o with framesBegun := n } :: rest) = owedNames rest := by
    simp [owedNames, Nat.pos_iff_ne_zero.1 hn]
  rw [hnames]
  exact hnodup.sublist (owedNames_sublist (List.sublist_cons_self _ _))

theorem owedListLawful_nil : owedListLawful [] := ⟨nofun, List.nodup_nil⟩

theorem owedLawful_of_owed {t : State} (h : owedLawful s) (ho : t.line.owed = s.line.owed) : owedLawful t := by
  rw [owedLawful_iff, ho]
  exact h

theorem owedLawful_with {t : State} {c : OwedCommand} (h : owedLawful s) (ho : t.line.owed = owedWith c s.line.owed) :
    owedLawful t := by
  rw [owedLawful_iff, ho]
  exact owedListLawful_with c h

theorem finishSurvey_owed (r : SurveyState) : (finishSurvey r s).line.owed = owedWith .close s.line.owed := by
  simp [finishSurvey, addOwed_owed, owedWith]

theorem owed_rules : StepRules False True True owedLawful where
  reset _ _ _ := owedListLawful_nil
  load _ _ _ := owedListLawful_nil
  frameEnds s t p _ _ _ h := owedLawful_of_owed h (by simp [toPhase, State.setTxn])
  lineMarked s l hl h := owedLawful_of_owed h hl.owed
  owes s c h := owedLawful_with h (addOwed_owed s c)
  owedBegins s o rest n ho hn h := owedListLawful_begun (ho ▸ h) hn
  owedEnds s o rest ho h := owedListLawful_rest (o := o) (ho ▸ h)
  stops s _ h := owedLawful_of_owed h (by simp [enterOff, stopPolling])
  stopsSurvey s _ h := owedLawful_with (c := .close) h
    (by simp [enterOff, stopPolling, addOwed_owed, owedWith])
  resets s h := owedLawful_with (c := .unseatAll) h (by rw [lineReset_eq]; rfl)
  holds s hn h := owedLawful_with (c := .halt) h (by rw [holdEntry_eq hn]; rfl)
  surveyBegins s _ h := owedLawful_of_owed h (by simp [startSurvey])
  surveyEnds s r _ _ _ h := owedLawful_with h (finishSurvey_owed r)

/-! ## Entries replaced one at a time -/

/-- What holds of every entry holds of every entry once one is replaced by one of which it holds. -/
theorem forall_entry_setEntry {Q : Entry → Prop} (h : ∀ j, Q (s.entry j)) {i : Slot} {e : Entry} (he : Q e) (j : Slot) :
    Q ((s.setEntry i e).entry j) := by
  by_cases hj : j = i
  · subst hj
    rw [entry_setEntry_self]
    exact he
  · rw [entry_setEntry_ne _ hj]
    exact h j

@[simp] theorem entry_describeSuccess_self (i : Slot) (d : Descriptor) (prior : Option EntryState) :
    (describeSuccess i d prior s).entry i = describedEntry d prior (s.entry i) := entry_setEntry_self _ _ _

@[simp] theorem kindDefault_missCount (k : NodeKind) (e : Entry) : (kindDefault k e).missCount = e.missCount := by
  unfold kindDefault
  split <;> rfl

@[simp] theorem describedEntry_missCount (d : Descriptor) (prior : Option EntryState) (e : Entry) :
    (describedEntry d prior e).missCount = e.missCount := by
  unfold describedEntry
  split <;> simp

@[simp] theorem redescribedEntry_missCount (d : Descriptor) (e : Entry) :
    (redescribedEntry d e).missCount = e.missCount := by
  unfold redescribedEntry
  split <;> simp

theorem kindDefault_gate (k : NodeKind) {e : Entry} (h : e.gateOpen = false) : (kindDefault k e).gateOpen = false := by
  unfold kindDefault
  split
  · rfl
  · exact h

theorem describedEntry_gate (d : Descriptor) (prior : Option EntryState) {e : Entry} (h : e.gateOpen = false) :
    (describedEntry d prior e).gateOpen = false := by
  unfold describedEntry
  split
  · exact kindDefault_gate _ h
  all_goals exact h

theorem redescribedEntry_gate (d : Descriptor) {e : Entry} (h : e.gateOpen = false) :
    (redescribedEntry d e).gateOpen = false := by
  unfold redescribedEntry
  split
  · exact kindDefault_gate _ h
  all_goals exact h

/-- R6: a describe phase leaves an ACTIVE entry as it is. -/
theorem describedEntry_active (d : Descriptor) (prior : Option EntryState) {e : Entry} (h : e.state = .active) :
    describedEntry d prior e = e := by simp [describedEntry, h]

theorem redescribedEntry_active (d : Descriptor) {e : Entry} (h : e.state = .active) :
    redescribedEntry d e = { e with descriptor := some d } := by simp [redescribedEntry, h]

/-! ## Gates (R17) -/

/-- Gates stay shut where the line state is the same and no gate opens. -/
theorem gatesShut_of {t : State} (h : gatesShutWhenHeld s) (hl : t.line.state = s.line.state)
    (hg : (∀ i, (s.entry i).gateOpen = false) → ∀ i, (t.entry i).gateOpen = false) : gatesShutWhenHeld t :=
  fun ht => hg (h (hl ▸ ht))

theorem gatesShut_setEntry {i : Slot} {e : Entry} (h : gatesShutWhenHeld s)
    (he : s.line.state = .held → (s.entry i).gateOpen = false → e.gateOpen = false) :
    gatesShutWhenHeld (s.setEntry i e) := fun hl =>
  forall_entry_setEntry (Q := fun e => e.gateOpen = false) (h hl) (he hl (h hl i))

theorem gatesShut_notHeld {t : State} (h : t.line.state ≠ .held) : gatesShutWhenHeld t := fun ht => absurd ht h

theorem gates_rules : StepRules False True True gatesShutWhenHeld where
  reset _ _ _ := gatesShut_notHeld (by simp [resetBlocks, State.reset])
  load _ _ _ := gatesShut_notHeld (by simp [loadSettings, loadValues, resetBlocks, State.reset])
  touched s i e he h := gatesShut_setEntry h fun hl hg => by
    refine Classical.byContradiction fun ho => ?_
    rcases he.gate (by simpa using ho) with h1 | h1
    · rw [hg] at h1
      cases h1
    · exact h1 hl
  paused s i _ h := gatesShut_setEntry h fun _ hg => hg
  activated s i _ h := gatesShut_setEntry h fun _ hg => hg
  freed s i h := gatesShut_setEntry h fun _ _ => rfl
  lost s i _ h := gatesShut_setEntry h fun _ _ => rfl
  described s i d prior _ h := gatesShut_setEntry h fun _ hg => describedEntry_gate d prior hg
  redescribed s i d _ h := gatesShut_setEntry h fun _ hg => redescribedEntry_gate d hg
  polls s _ _ _ h hl i := by
    rw [entry_zeroMisses]
    exact h hl i
  frameEnds s t p _ _ _ h := gatesShut_of h (by simp [toPhase, State.setTxn])
    (fun hg i => by simpa [State.entry, toPhase, State.setTxn] using hg i)
  lineMarked s l hl h := gatesShut_of h hl.state id
  directoryCleared s _ _ i := by simp [Entry.blank]
  runs s _ _ := gatesShut_notHeld (by simp [enterRunning])
  stops s _ _ := gatesShut_notHeld (by simp)
  stopsSurvey s _ _ := gatesShut_notHeld (by simp)
  resets s _ := gatesShut_notHeld (by rw [lineReset_eq]; simp)
  holds s hn _ _ i := by
    rw [holdEntry_eq hn]
    simp [State.entry]
  surveyBegins s _ _ := gatesShut_notHeld (by simp [startSurvey])
  seats s u r r' i x _ _ _ _ _ _ _ _ _ _ h := gatesShut_setEntry h fun _ _ => rfl
  rejoins s u r r' i _ _ _ _ _ _ _ _ h := gatesShut_setEntry h fun _ _ => rfl
  surveyEnds s r _ _ _ _ := gatesShut_notHeld (by simp [finishSurvey])

/-! ## The miss counts (R87) -/

/-- The law of one entry's miss count. -/
def missLawful (limit : Nat) (e : Entry) : Prop := e.missCount < limit ∧ (e.state ≠ .active → e.missCount = 0)

theorem missLawful_zero {limit : Nat} (h : 1 ≤ limit) {e : Entry} (he : e.missCount = 0) : missLawful limit e :=
  ⟨by omega, fun _ => he⟩

theorem missesLawful_setEntry {i : Slot} {e : Entry} (h : missesLawful s) (he : missLawful s.sched.missLimit e) :
    missesLawful (s.setEntry i e) :=
  ⟨h.1, forall_entry_setEntry (Q := missLawful s.sched.missLimit) h.2 he⟩

/-- An entry whose count stands, and that was ACTIVE or has stayed out of it. -/
theorem missLawful_same {limit : Nat} {e e' : Entry} (h : missLawful limit e) (hc : e'.missCount = e.missCount)
    (hs : e.state = .active → e'.state = .active) : missLawful limit e' :=
  ⟨hc ▸ h.1, fun ha => hc.trans (h.2 fun he => ha (hs he))⟩

theorem missesLawful_of {t : State} (h : missesLawful s) (hl : t.sched.missLimit = s.sched.missLimit)
    (he : t.dir.entries = s.dir.entries) : missesLawful t := by
  refine ⟨hl ▸ h.1, fun i => ?_⟩
  rw [State.entry, he, hl]
  exact h.2 i

/-- R171: what a load takes for the miss limit is at least 1. -/
theorem loadSettings_missLimit : 1 ≤ (loadSettings s).sched.missLimit := by
  unfold loadSettings
  split
  · rename_i hw
    simp only [imageWhole, valuesWhole, Bool.and_eq_true, decide_eq_true_eq] at hw
    obtain ⟨⟨_, ⟨⟨⟨⟨⟨_, hmiss⟩, _⟩, _⟩, _⟩, _⟩, _⟩, _⟩ := hw
    exact hmiss.1
  · simp [loadValues, blankImage]

theorem misses_rules : StepRules False True True missesLawful where
  reset _ s h := ⟨h.1, fun i => missLawful_zero h.1 (by simp [State.entry, resetBlocks, State.reset, Entry.blank])⟩
  load _ s _ := ⟨loadSettings_missLimit, fun i => missLawful_zero loadSettings_missLimit
    (by simp [State.entry, loadSettings, loadValues, resetBlocks, State.reset, Entry.blank])⟩
  touched s i e he h := missesLawful_setEntry h (by
    rcases he.misses with hm | hm | ⟨ha, hm⟩
    · exact missLawful_zero h.1 hm
    · exact missLawful_same (h.2 i) hm (he.state ▸ id)
    · exact ⟨hm, fun hn => absurd (he.state.trans ha) hn⟩)
  paused s i _ h := missesLawful_setEntry h (missLawful_zero h.1 rfl)
  activated s i _ h := missesLawful_setEntry h (missLawful_same (h.2 i) rfl (fun _ => rfl))
  freed s i h := missesLawful_setEntry h (missLawful_zero h.1 rfl)
  lost s i _ h := missesLawful_setEntry h (missLawful_zero h.1 rfl)
  described s i d prior _ h := missesLawful_setEntry h (missLawful_same (h.2 i) (by simp) fun ha => by
    rw [describedEntry_active d prior ha]
    exact ha)
  redescribed s i d _ h := missesLawful_setEntry h (missLawful_same (h.2 i) (by simp) fun ha => by
    rw [redescribedEntry_active d ha]
    exact ha)
  polls s _ limit hl _ := ⟨hl, fun i => missLawful_zero hl (by simp)⟩
  frameEnds s t p _ _ _ h := missesLawful_of h (by simp [toPhase, State.setTxn]) (by simp [toPhase, State.setTxn])
  directoryCleared s h := ⟨h.1, fun i => missLawful_zero h.1 (by simp [Entry.blank])⟩
  stops s _ h := missesLawful_of h (by simp [stopPolling]) (by simp)
  stopsSurvey s _ h := missesLawful_of h (by simp [stopPolling]) (by simp)
  resets s h := missesLawful_of h (by rw [lineReset_eq]) (by simp)
  holds s hn h := by
    rw [holdEntry_eq hn]
    refine ⟨h.1, fun i => ?_⟩
    simpa [State.entry] using h.2 i
  surveyBegins s _ h := missesLawful_of h (by simp [startSurvey]) (by simp)
  seats s u r r' i x _ _ _ _ _ _ _ _ _ _ h := missesLawful_setEntry h (missLawful_zero h.1 rfl)
  rejoins s u r r' i _ _ _ _ _ _ _ _ h := missesLawful_setEntry h (missLawful_zero h.1 rfl)
  surveyEnds s r _ _ _ h := missesLawful_of h (by simp [finishSurvey, cycleStart]) (by simp)

/-! ## The due set (R77) -/

/-- The due set after a change of one entry that was not ACTIVE or stays so. -/
theorem dueLawful_setEntry {i : Slot} {e : Entry} (h : dueLawful s)
    (he : (s.entry i).state = .active → e.state = .active) : dueLawful (s.setEntry i e) := by
  obtain ⟨hdue, hrest⟩ := h
  refine ⟨fun j hj => ?_, hrest⟩
  have hold : (s.entry j).state = .active := hdue j hj
  by_cases e' : j = i
  · subst e'
    rw [entry_setEntry_self]
    exact he hold
  · rw [entry_setEntry_ne _ e']
    exact hold

/-- The due set after an entry leaves it, whatever becomes of that entry. -/
theorem dueLawful_leaves {t : State} {i : Slot} (h : dueLawful s) (hl : t.line.state = s.line.state)
    (hd : ∀ j, t.isDue j = (s.setDue i false).isDue j) (he : ∀ j, j ≠ i → t.entry j = s.entry j) : dueLawful t := by
  obtain ⟨hdue, hrest⟩ := h
  have hsub : ∀ j, t.isDue j = true → j ≠ i ∧ s.isDue j = true := by
    intro j hj
    rw [hd] at hj
    by_cases e : j = i
    · subst e
      simp at hj
    · exact ⟨e, isDue_setDue_ne _ e _ ▸ hj⟩
  refine ⟨fun j hj => ?_, fun ht j => ?_⟩
  · obtain ⟨hji, hj⟩ := hsub j hj
    rw [he j hji]
    exact hdue j hj
  · refine Classical.byContradiction fun hn => ?_
    have := (hsub j (by simpa using hn)).2
    rw [hrest (hl ▸ ht) j] at this
    cases this

theorem dueLawful_none {t : State} (h : ∀ j, t.isDue j = false) : dueLawful t :=
  ⟨fun j hj => absurd (h j) (by simp [hj]), fun _ => h⟩

theorem dueLawful_of {t : State} (h : dueLawful s) (hl : t.line.state = s.line.state) (hd : t.sched.due = s.sched.due)
    (he : t.dir.entries = s.dir.entries) : dueLawful t := by
  obtain ⟨hdue, hrest⟩ := h
  refine ⟨fun j hj => ?_, fun ht j => ?_⟩
  · rw [State.isDue, hd] at hj
    rw [State.entry, he]
    exact hdue j hj
  · rw [State.isDue, hd]
    exact hrest (hl ▸ ht) j

/-- R74: whoever is due after a cycle start was due before it or is ACTIVE. -/
theorem due_of_cycleStart {i : Slot} (h : (cycleStart s).isDue i = true) :
    s.isDue i = true ∨ (s.entry i).state = .active := by
  simpa [isDue_cycleStart] using h

/-- R74: a cycle start of a line that runs. -/
theorem dueLawful_cycleStart (h : dueLawful s) {t : State} (ht : t.line.state = .running)
    
    (hd : ∀ i, t.isDue i = true → s.isDue i = true ∨ (s.entry i).state = .active) (he : t.dir.entries = s.dir.entries) : dueLawful t := by
  refine ⟨fun j hj => ?_, fun hl => ?_⟩
  · rw [State.entry, he]
    exact (hd j hj).elim (h.1 j) id
  · rw [ht] at hl
    rcases hl with hl | hl <;> cases hl

theorem due_rules : StepRules False True True dueLawful where
  reset _ s _ := dueLawful_none fun j => by simp [State.isDue, resetBlocks, State.reset]
  load _ s _ := dueLawful_none fun j => by
    simp [State.isDue, loadSettings, loadValues, resetBlocks, State.reset]
  touched s i e he h := dueLawful_setEntry h (he.state ▸ id)
  paused s i _ h := dueLawful_leaves (i := i) h rfl (fun _ => rfl) fun j hj => entry_setEntry_ne s hj _
  activated s i _ h := dueLawful_setEntry h fun _ => rfl
  freed s i h := dueLawful_leaves (i := i) h rfl (fun _ => rfl) fun j hj => entry_setEntry_ne s hj _
  lost s i _ h := dueLawful_leaves (i := i) h rfl (fun _ => rfl) fun j hj => entry_setEntry_ne s hj _
  described s i d prior _ h := dueLawful_setEntry h fun ha => by
    rw [describedEntry_active d prior ha]
    exact ha
  redescribed s i d _ h := dueLawful_setEntry h fun ha => by
    rw [redescribedEntry_active d ha]
    exact ha
  polls s _ _ _ h := ⟨fun j hj => by
    rw [entry_zeroMisses]
    exact h.1 j hj, h.2⟩
  frameEnds s t p _ _ _ h := dueLawful_of h (by simp [toPhase, State.setTxn]) (by simp [toPhase, State.setTxn])
    (by simp [toPhase, State.setTxn])
  lineMarked s l hl h := dueLawful_of h hl.state rfl rfl
  directoryCleared s _ := dueLawful_none fun j => by simp
  undue s i h := dueLawful_leaves (i := i) h rfl (fun _ => rfl) fun _ _ => rfl
  cycles s hl h := dueLawful_cycleStart h hl (fun _ => due_of_cycleStart) rfl
  runs s _ h := dueLawful_cycleStart h rfl (fun _ => due_of_cycleStart) rfl
  stops s _ _ := dueLawful_none fun j => isDue_stopPolling _ j
  stopsSurvey s _ _ := dueLawful_none fun j => isDue_stopPolling _ j
  resets s _ := dueLawful_none fun j => by
    rw [lineReset_eq]
    simp [State.isDue]
  holds s hn _ := dueLawful_none fun j => by
    rw [holdEntry_eq hn]
    simp [State.isDue]
  surveyBegins s hl h := by
    refine ⟨fun j hj => ?_, fun ht => by simp [startSurvey] at ht⟩
    have hold : s.isDue j = true := by simpa [State.isDue, startSurvey] using hj
    simpa [State.entry] using h.1 j hold
  seats s u r r' i x _ _ _ _ _ _ hfree _ _ _ h := dueLawful_setEntry h fun ha => by
    rw [hfree] at ha
    cases ha
  rejoins s u r r' i _ _ _ _ _ _ _ _ h := dueLawful_leaves (i := i) h rfl (fun _ => rfl) fun j hj =>
    entry_setEntry_ne s hj _
  surveyEnds s r _ _ _ h := dueLawful_cycleStart h rfl (fun i hi => by simpa [finishSurvey, State.isDue, State.entry, cycleStart] using hi)
    (by simp)

end Sys2Proof.Machine
end
section
/-! PROOFS. The laws of the fault table, the due set, the miss counts, the pool, the owed sends and report memory that every
step keeps, settled. -/

namespace Sys2Proof.Proofs

open Sys2Proof Sys2Proof.Machine

/-- Settles O53: every elementary change keeps the law of the fault table, so every step does. -/
theorem faultTableStaysLawful : Obligations.FaultTableStaysLawful := fun _ _ h hstep =>
  faultTable_rules.step_keeps (fun _ _ h => h) trivial trivial False.elim h hstep

/-- Settles O54: every elementary change keeps the law of the due set, and every one keeps the law of the miss counts. -/
theorem dueSetAndMissesStayLawful : Obligations.DueSetAndMissesStayLawful :=
  ⟨fun _ _ h hstep => due_rules.step_keeps (fun _ _ h => h) trivial trivial False.elim h hstep,
    fun _ _ h hstep => misses_rules.step_keeps (fun _ _ h => h) trivial trivial False.elim h hstep⟩

/-- Settles O57: every elementary change keeps the law of the pool, and every one keeps the law of the owed sends. -/
theorem poolAndOwedSendsStayLawful : Obligations.PoolAndOwedSendsStayLawful :=
  ⟨fun _ _ h hstep => pool_rules.step_keeps (fun _ _ h => h) trivial trivial False.elim h hstep,
    fun _ _ h hstep => owed_rules.step_keeps (fun _ _ h => h) trivial trivial False.elim h hstep⟩

/-- Settles O58: only a report that is taken, or a start, changes report memory; a write keeps its canonical form. -/
theorem reportMemoryIsKept : Obligations.ReportMemoryIsKept := by
  refine ⟨fun c s t ht hanswer hon hloss hlow hhigh hrestart hreply => ?_,
    fun _ _ h hstep => memoryLawful_rules.step_keeps (fun _ _ h => h) trivial trivial False.elim h hstep⟩
  have hstarts : mayStart c = true → False := by
    cases c <;> simp_all [mayStart]
  have hbrings : bringsAnswer c = true → False := by
    cases c <;> simp_all [bringsAnswer]
  obtain ⟨u, hu, hmemory⟩ := (memory_rules s.store.memory).exec_keeps (s := s) c hstarts hbrings False.elim rfl
  cases hu.symm.trans ht
  exact hmemory

end Sys2Proof.Proofs
end
section
/-! PROOFS. The laws of the entries, of the rings, of the work on the line, of the identities and of the bindings: how each
elementary change keeps them. -/

namespace Sys2Proof.Machine

variable {s : State}

/-! ## The entries (R1, R3) -/

theorem directoryLawful_setEntry {i : Slot} {e : Entry} (h : directoryLawful s) (he : entryLawful e) :
    directoryLawful (s.setEntry i e) := forall_entry_setEntry (Q := entryLawful) h he

theorem directoryLawful_of {t : State} (h : directoryLawful s) (he : t.dir.entries = s.dir.entries) :
    directoryLawful t := fun i => by
  rw [State.entry, he]
  exact h i

theorem entryLawful_blank : entryLawful Entry.blank := by simp [entryLawful, Entry.blank]

/-- An entry with the claim of a lawful one is lawful. -/
theorem entryLawful_same {e e' : Entry} (h : entryLawful e) (hf : e.state ≠ .free) (hs : e'.state = e.state)
    (hi : e'.identity = e.identity) (hd : e'.descriptor = e.descriptor) (ht : e'.seatedAt = e.seatedAt) :
    entryLawful e' := by
  obtain ⟨_, hclaim, hdesc, hfit⟩ := h
  refine ⟨fun hfree => absurd (hs ▸ hfree) hf, fun _ => ?_, ?_, ?_⟩
  · rw [hi, ht]
    exact hclaim hf
  · rw [hs, hd]
    exact hdesc
  · rw [hd]
    exact hfit

/-- An entry that moves between ACTIVE, PAUSED and LOST. -/
theorem entryLawful_moved {e e' : Entry} (h : entryLawful e) (hs : e.state = .active ∨ e.state = .paused)
    (hs' : e'.state = .active ∨ e'.state = .paused ∨ e'.state = .lost) (hi : e'.identity = e.identity)
    (hd : e'.descriptor = e.descriptor) (ht : e'.seatedAt = e.seatedAt) : entryLawful e' := by
  obtain ⟨_, hclaim, hdesc, hfit⟩ := h
  have hf : e.state ≠ .free := by rcases hs with h | h <;> simp [h]
  have hsome : e.descriptor.isSome = true := hdesc.2 (hs.imp_right .inl)
  refine ⟨fun hfree => ?_, fun _ => ?_, ?_, ?_⟩
  · rw [hfree] at hs'
    rcases hs' with h | h | h <;> cases h
  · rw [hi, ht]
    exact hclaim hf
  · rw [hd]
    exact iff_of_true hsome hs'
  · rw [hd]
    exact hfit

/-- A blank entry stays blank where its misses are zeroed or its gate is shut; another keeps its claim. -/
theorem entryLawful_cleared {e e' : Entry} (h : entryLawful e) (hblank : e = Entry.blank → e' = Entry.blank)
    (hs : e'.state = e.state) (hi : e'.identity = e.identity) (hd : e'.descriptor = e.descriptor)
    (ht : e'.seatedAt = e.seatedAt) : entryLawful e' := by
  by_cases hf : e.state = .free
  · rw [hblank (h.1 hf)]
    exact entryLawful_blank
  · exact entryLawful_same h hf hs hi hd ht

theorem entryLawful_noMisses {e : Entry} (h : entryLawful e) : entryLawful { e with missCount := 0 } :=
  entryLawful_cleared h (fun hb => by rw [hb]; rfl) rfl rfl rfl rfl

theorem entryLawful_shut {e : Entry} (h : entryLawful e) : entryLawful { e with gateOpen := false } :=
  entryLawful_cleared h (fun hb => by rw [hb]; rfl) rfl rfl rfl rfl

theorem kindDefault_claim (k : NodeKind) (e : Entry) : (kindDefault k e).state = e.state ∧
    (kindDefault k e).identity = e.identity ∧ (kindDefault k e).seatedAt = e.seatedAt := by
  unfold kindDefault
  split <;> exact ⟨rfl, rfl, rfl⟩

/-- R6, R11: an UNDESCRIBED entry takes a descriptor and becomes ACTIVE or PAUSED. -/
theorem entryLawful_claimed {k : NodeKind} {d : Descriptor} {e : Entry} {st : EntryState} (h : entryLawful e)
    (hf : e.state ≠ .free) (hd : descriptorLawful d) (hs : st = .active ∨ st = .paused) :
    entryLawful { kindDefault k e with descriptor := some d, state := st } := by
  obtain ⟨_, hclaim, _, _⟩ := h
  obtain ⟨_, hi, ht⟩ := kindDefault_claim k e
  refine ⟨fun hfree => ?_, fun _ => ?_, ?_, ?_⟩
  · simp only at hfree
    rw [hfree] at hs
    rcases hs with h | h <;> cases h
  · simp only [hi, ht]
    exact hclaim hf
  · exact iff_of_true rfl (hs.imp_right .inl)
  · intro d' hd'
    cases hd'
    exact hd

theorem describedEntry_lawful {d : Descriptor} (prior : Option EntryState) {e : Entry} (h : entryLawful e)
    (hd : descriptorLawful d) : entryLawful (describedEntry d prior e) := by
  unfold describedEntry
  split
  · rename_i hs
    refine entryLawful_claimed h (by simp [hs]) hd ?_
    split
    · exact .inr rfl
    · exact .inl rfl
  all_goals exact h

theorem redescribedEntry_lawful {d : Descriptor} {e : Entry} (h : entryLawful e) (hd : descriptorLawful d) :
    entryLawful (redescribedEntry d e) := by
  have hreplaced : e.state = .active ∨ e.state = .paused → entryLawful { e with descriptor := some d } := by
    intro hs
    obtain ⟨_, hclaim, _, _⟩ := h
    have hf : e.state ≠ .free := by rcases hs with h | h <;> simp [h]
    refine ⟨fun hfree => absurd hfree hf, fun _ => hclaim hf, iff_of_true rfl (hs.imp_right .inl), fun d' hd' => ?_⟩
    cases hd'
    exact hd
  unfold redescribedEntry
  split
  · rename_i hs
    exact entryLawful_claimed h (by simp [hs]) hd (.inl rfl)
  · rename_i hs
    exact hreplaced (.inl hs)
  · rename_i hs
    exact hreplaced (.inr hs)
  · exact h
  · exact h

theorem rejoinedEntry_lawful {e : Entry} (h : entryLawful e) (hf : e.state ≠ .free) : entryLawful (rejoinedEntry e) := by
  obtain ⟨_, hclaim, _, _⟩ := h
  exact ⟨nofun, fun _ => hclaim hf, by simp [rejoinedEntry], by simp [rejoinedEntry]⟩

theorem directory_rules : StepRules True True True directoryLawful where
  reset _ s _ i := by simpa [State.entry, resetBlocks, State.reset] using entryLawful_blank
  load _ s _ i := by simpa [State.entry, loadSettings, loadValues, resetBlocks, State.reset] using entryLawful_blank
  touched s i e he h := directoryLawful_setEntry h
    (entryLawful_same (h i) he.taken he.state he.identity he.descriptor he.seatedAt)
  paused s i ha h := directoryLawful_setEntry h (entryLawful_moved (h i) (.inl ha) (.inr (.inl rfl)) rfl rfl rfl)
  activated s i hp h := directoryLawful_setEntry h (entryLawful_moved (h i) (.inr hp) (.inl rfl) rfl rfl rfl)
  freed s i h := directoryLawful_setEntry h entryLawful_blank
  lost s i ha h := directoryLawful_setEntry h (entryLawful_moved (h i) (.inl ha) (.inr (.inr rfl)) rfl rfl rfl)
  described s i d prior hd h := directoryLawful_setEntry h (describedEntry_lawful prior (h i) (hd trivial))
  redescribed s i d hd h := directoryLawful_setEntry h (redescribedEntry_lawful (h i) (hd trivial))
  polls s _ _ _ h i := by
    rw [entry_zeroMisses]
    exact entryLawful_noMisses (h i)
  frameEnds s t p _ _ _ h := directoryLawful_of h (by simp [toPhase, State.setTxn])
  directoryCleared s _ i := by simpa using entryLawful_blank
  stops s _ h := directoryLawful_of h (by simp)
  stopsSurvey s _ h := directoryLawful_of h (by simp)
  resets s h := directoryLawful_of h (by simp)
  holds s hn h i := by
    rw [holdEntry_eq hn]
    simp only [State.entry, cell_mapCells]
    exact entryLawful_shut (h i)
  surveyBegins s _ h := directoryLawful_of h (by simp)
  seats s u r r' i x _ _ _ _ _ _ _ _ _ _ h := directoryLawful_setEntry h
    ⟨nofun, fun _ => ⟨rfl, rfl⟩, by simp [Entry.blank], by simp [Entry.blank]⟩
  rejoins s u r r' i _ _ _ _ hf _ _ _ h := directoryLawful_setEntry h (rejoinedEntry_lawful (h i) hf)
  surveyEnds s r _ _ _ h := directoryLawful_of h (by simp)

/-! ## The rings (R91, R92) -/

theorem spansOverlap_comm (b n b' n' : Nat) : spansOverlap b n b' n' = spansOverlap b' n' b n := Bool.and_comm _ _

theorem overlapsOther_eq_false {i : Slot} {b n : Nat} : s.overlapsOther i b n = false ↔
    ∀ j, j ≠ i → ∀ r, s.ring j = some r → spansOverlap b n r.base r.size = false := by
  simp only [State.overlapsOther, List.any_eq_false, Bool.and_eq_true, decide_eq_true_eq, not_and, Bool.not_eq_true]
  refine ⟨fun h j hj r hr => ?_, fun h j _ hj => ?_⟩
  · have := h j (mem_slots j) hj
    rwa [hr] at this
  · split
    · rename_i r hr
      exact h j hj r hr
    · rfl

/-- The rings stay lawful where none moves or appears and no entry with a ring becomes FREE. -/
theorem ringsLawful_of {t : State} (h : ringsLawful s)
    (hr : ∀ i r, t.ring i = some r → ∃ r₀, s.ring i = some r₀ ∧ r.base = r₀.base ∧ r.size = r₀.size ∧
      (ringLawful r₀ → ringLawful r))
    (he : ∀ i r, t.ring i = some r → (s.entry i).state ≠ .free → (t.entry i).state ≠ .free) : ringsLawful t := by
  intro i r hi
  obtain ⟨r₀, h₀, hbase, hsize, hlawful⟩ := hr i r hi
  obtain ⟨hl, hf, ho⟩ := h i r₀ h₀
  refine ⟨hlawful hl, he i r hi hf, overlapsOther_eq_false.2 fun j hj q hq => ?_⟩
  obtain ⟨q₀, hq₀, hqbase, hqsize, _⟩ := hr j q hq
  rw [hbase, hsize, hqbase, hqsize]
  exact overlapsOther_eq_false.1 ho j hj q₀ hq₀

/-- The rings stay lawful where all stand and no entry becomes FREE. -/
theorem ringsLawful_same {t : State} (h : ringsLawful s) (hr : t.store.rings = s.store.rings)
    (he : ∀ i, (s.entry i).state ≠ .free → (t.entry i).state ≠ .free) : ringsLawful t :=
  ringsLawful_of h (fun i r hi => ⟨r, by rw [← hi, State.ring, State.ring, hr], rfl, rfl, id⟩) fun i _ _ => he i

theorem ringsLawful_entries {t : State} (h : ringsLawful s) (hr : t.store.rings = s.store.rings)
    (he : t.dir.entries = s.dir.entries) : ringsLawful t :=
  ringsLawful_same h hr fun i hi => by
    rw [State.entry, he]
    exact hi

/-- The rings stay lawful where one entry is replaced and does not become FREE. -/
theorem ringsLawful_setEntry {i : Slot} {e : Entry} (h : ringsLawful s)
    (he : (s.entry i).state ≠ .free → e.state ≠ .free) : ringsLawful (s.setEntry i e) :=
  ringsLawful_same h rfl fun j hj => by
    by_cases e' : j = i
    · subst e'
      rw [entry_setEntry_self]
      exact he hj
    · rw [entry_setEntry_ne _ e']
      exact hj

theorem ringsLawful_none {t : State} (h : ∀ i, t.ring i = none) : ringsLawful t := fun i r hi => by
  rw [h i] at hi
  cases hi

theorem describedEntry_taken (d : Descriptor) (prior : Option EntryState) {e : Entry} (h : e.state ≠ .free) :
    (describedEntry d prior e).state ≠ .free := by
  unfold describedEntry
  split
  · dsimp only
    split <;> decide
  all_goals exact h

theorem redescribedEntry_taken (d : Descriptor) {e : Entry} (h : e.state ≠ .free) :
    (redescribedEntry d e).state ≠ .free := by
  unfold redescribedEntry
  split
  · exact nofun
  all_goals exact h

/-- The ring of a slot that is released is gone, and the others stand. -/
theorem ringsLawful_released {t : State} {i : Slot} (h : ringsLawful s) (hi : t.ring i = none)
    (hr : ∀ j, j ≠ i → t.ring j = s.ring j) (he : ∀ j, j ≠ i → t.entry j = s.entry j) : ringsLawful t := by
  have hne : ∀ j r, t.ring j = some r → j ≠ i := by
    rintro j r hj rfl
    rw [hi] at hj
    cases hj
  exact ringsLawful_of h (fun j r hj => ⟨r, hr j (hne j r hj) ▸ hj, rfl, rfl, id⟩)
    fun j r hj hf => by rwa [he j (hne j r hj)]

/-- R93: a ring that overlaps none is assigned. -/
theorem ringsLawful_assigned {i : Slot} {r : Ring} (h : ringsLawful s) (hl : ringLawful r)
    (hf : (s.entry i).state ≠ .free) (ho : s.overlapsOther i r.base r.size = false) :
    ringsLawful (s.setRing i (some r)) := by
  rw [overlapsOther_eq_false] at ho
  intro j q hj
  by_cases e : j = i
  · subst e
    rw [ring_setRing_self] at hj
    cases hj
    refine ⟨hl, hf, overlapsOther_eq_false.2 fun k hk p hp => ho k hk p ?_⟩
    rwa [ring_setRing_ne _ hk] at hp
  · rw [ring_setRing_ne _ e] at hj
    obtain ⟨hql, hqf, hqo⟩ := h j q hj
    refine ⟨hql, hqf, overlapsOther_eq_false.2 fun k hk p hp => ?_⟩
    by_cases ek : k = i
    · subst ek
      rw [ring_setRing_self] at hp
      cases hp
      rw [spansOverlap_comm]
      exact ho j e q hj
    · rw [ring_setRing_ne _ ek] at hp
      exact overlapsOther_eq_false.1 hqo k hk p hp

theorem rings_rules : StepRules True True True ringsLawful where
  reset _ s _ := ringsLawful_none fun i => by simp [State.ring, resetBlocks, State.reset]
  load _ s _ := ringsLawful_none fun i => by simp [State.ring, loadSettings, loadValues, resetBlocks, State.reset]
  touched s i e he h := ringsLawful_setEntry h fun hf => he.state ▸ hf
  paused s i _ h := ringsLawful_setEntry h fun _ => nofun
  activated s i _ h := ringsLawful_setEntry h fun _ => nofun
  freed s i h := ringsLawful_released (i := i) h (ring_setRing_self _ _ _) (fun j hj => ring_setRing_ne _ hj _)
    fun j hj => entry_setEntry_ne s hj _
  lost s i _ h := ringsLawful_setEntry h fun _ => nofun
  described s i d prior _ h := ringsLawful_setEntry h fun hf => describedEntry_taken d prior hf
  redescribed s i d _ h := ringsLawful_setEntry h fun hf => redescribedEntry_taken d hf
  polls s _ _ _ h := ringsLawful_same h rfl fun i hi => by
    rw [entry_zeroMisses]
    exact hi
  frameEnds s t p _ _ _ h := ringsLawful_entries h (by simp [toPhase, State.setTxn]) (by simp [toPhase, State.setTxn])
  directoryCleared s _ := ringsLawful_none fun i => by simp
  ring s i r r' hr hbase hsize hlaw h := ringsLawful_of h (fun j q hj => by
      by_cases e : j = i
      · subst e
        rw [ring_setRing_self] at hj
        cases hj
        exact ⟨r, hr, hbase, hsize, hlaw trivial⟩
      · rw [ring_setRing_ne _ e] at hj
        exact ⟨q, hj, rfl, rfl, id⟩) fun _ _ _ hf => hf
  assigned s i r hl hf ho h := ringsLawful_assigned h hl hf ho
  unassigned s i h := ringsLawful_released (i := i) h (ring_setRing_self _ _ _) (fun j hj => ring_setRing_ne _ hj _)
    fun _ _ => rfl
  stops s _ h := ringsLawful_entries h (by simp) (by simp)
  stopsSurvey s _ h := ringsLawful_entries h (by simp) (by simp)
  resets s h := ringsLawful_entries h (by simp) (by simp)
  holds s hn h := ringsLawful_same h (by simp) fun i hi => by
    rw [holdEntry_eq hn]
    simpa [State.entry] using hi
  surveyBegins s _ h := ringsLawful_entries h (by simp) (by simp)
  seats s u r r' i x _ _ _ _ _ _ _ _ _ _ h := ringsLawful_setEntry h fun _ => nofun
  rejoins s u r r' i _ _ _ _ _ _ _ _ h := ringsLawful_setEntry h fun _ => nofun
  surveyEnds s r _ _ _ h := ringsLawful_entries h (by simp) (by simp)

end Sys2Proof.Machine
end
section
/-! PROOFS. The law of the work on the line, of the identities and of the bindings: how each elementary change keeps them,
and the statements about the entries, settled. -/

namespace Sys2Proof.Machine

variable {s : State}

/-! ## The work on the line (R59, R110) -/

/-- A frame whose outcome is to come. -/
def awaits (t : Transaction) : Prop := t.aborted = none ∧ (t.phase = .send ∨ t.phase = .wait ∨ t.phase = .receive)

theorem workLawful_idle {t : State} (h : ∀ x, t.line.txn = some x → ¬ awaits x) : workLawful t :=
  fun x hx ha hp => absurd ⟨ha, hp⟩ (h x hx)

theorem not_awaits_of_quiet (h : s.quiet = true) : ∀ x, s.line.txn = some x → ¬ awaits x := by
  intro x hx ⟨_, hp⟩
  rw [State.quiet, hx] at h
  rw [of_decide_eq_true h] at hp
  rcases hp with hp | hp | hp <;> cases hp

/-- What awaits an outcome afterwards awaited it before, for the same work. -/
theorem workLawful_of {t : State} (h : workLawful s)
    (hx : ∀ x, t.line.txn = some x → awaits x → ∃ x₀, s.line.txn = some x₀ ∧ awaits x₀ ∧ x.user = x₀.user ∧ x.frame = x₀.frame)
    (hp : t.pool.inFlight = s.pool.inFlight)
    (hr : ∀ r, t.survey.round = some r → r.phase = .describe →
      ∃ r₀, s.survey.round = some r₀ ∧ r₀.phase = .describe ∧ r.chosen = r₀.chosen) : workLawful t := by
  intro x hxt ha hph
  obtain ⟨x₀, hx₀, ⟨ha₀, hph₀⟩, hu, hf⟩ := hx x hxt ⟨ha, hph⟩
  obtain ⟨hpool, hsurvey⟩ := h x₀ hx₀ ha₀ hph₀
  rw [hu, hf, hp]
  refine ⟨hpool, fun r hus hrt hd => ?_⟩
  obtain ⟨r₀, hr₀, hd₀, hc⟩ := hr r hrt hd
  rw [hc]
  exact hsurvey r₀ hus hr₀ hd₀

/-- The same transaction, the same request in flight, and the same round or none. -/
theorem workLawful_same {t : State} (h : workLawful s) (hx : t.line.txn = s.line.txn)
    (hp : t.pool.inFlight = s.pool.inFlight) (hr : t.survey.round = s.survey.round ∨ t.survey.round = none) :
    workLawful t :=
  workLawful_of h (fun x hxt ha => ⟨x, hx ▸ hxt, ha, rfl, rfl⟩) hp fun r hrt hd => by
    rcases hr with e | e
    · exact ⟨r, e ▸ hrt, hd, rfl⟩
    · rw [e] at hrt
      cases hrt

/-- R34: what awaits an outcome after it was told to end is a broadcast in SEND. -/
theorem broadcast_of_toldToEnd {x : Transaction} (h : awaits (toldToEnd x)) :
    awaits x ∧ x.phase = .send ∧ x.frame.target = none ∧ toldToEnd x = x := by
  obtain ⟨ha, hp⟩ := h
  unfold toldToEnd at ha hp ⊢
  split at ha
  · cases ha
  · rename_i hn
    rw [if_neg hn] at hp ⊢
    have hsend : x.phase = .send := by
      rcases hp with hp | hp | hp
      · exact hp
      · exact absurd (.inl hp) hn
      · exact absurd (.inr (.inl hp)) hn
    refine ⟨⟨ha, hp⟩, hsend, ?_, rfl⟩
    refine Classical.byContradiction fun ht => ?_
    exact hn (.inr (.inr ⟨hsend, Option.isSome_iff_ne_none.2 ht⟩))

theorem requestFrameOf_target (r : PoolRequest) : (requestFrameOf r).target = some r.slot := by
  cases h : r.work <;> simp [requestFrameOf, h]

/-- R34: once the transaction was told to end, no addressed frame awaits an outcome. -/
theorem workLawful_told {t : State} (h : workLawful s) (hx : t.line.txn = s.line.txn.map toldToEnd)
    (hr : t.survey.round = s.survey.round ∨ t.survey.round = none) : workLawful t := by
  intro y hy ha hp
  rw [hx, Option.map_eq_some_iff] at hy
  obtain ⟨x, hxs, rfl⟩ := hy
  obtain ⟨⟨ha₀, hp₀⟩, _, htarget, hsame⟩ := broadcast_of_toldToEnd ⟨ha, hp⟩
  obtain ⟨hpool, hsurvey⟩ := h x hxs ha₀ hp₀
  rw [hsame]
  refine ⟨fun hu => ?_, fun r hu hrt hd => ?_⟩
  · obtain ⟨r, _, hf⟩ := hpool hu
    rw [hf, requestFrameOf_target] at htarget
    cases htarget
  · rcases hr with e | e
    · obtain ⟨i, _, hf⟩ := hsurvey r hu (e ▸ hrt) hd
      rw [hf] at htarget
      cases htarget
    · rw [e] at hrt
      cases hrt

theorem stopSurvey_round (s : State) :
    (stopSurvey s).survey.round = s.survey.round ∨ (stopSurvey s).survey.round = none := by
  rcases stopSurvey_cases s with h | h | h <;> rw [h]
  · exact .inl rfl
  · exact .inl rfl
  · exact .inr (by rw [surveyStops_survey])

theorem clearRounds_round (s : State) :
    (clearRounds s).survey.round = s.survey.round ∨ (clearRounds s).survey.round = none := by
  unfold clearRounds
  split
  · exact .inl rfl
  · exact .inr rfl

theorem lineReset_round (s : State) :
    (lineReset s).survey.round = s.survey.round ∨ (lineReset s).survey.round = none := by
  rw [lineReset_eq]
  rcases clearRounds_round (stopSurvey s) with h | h
  · exact (stopSurvey_round s).imp h.trans h.trans
  · exact .inr h

theorem holdEntry_round (hn : s.line.state ≠ .held) :
    (holdEntry s).survey.round = s.survey.round ∨ (holdEntry s).survey.round = none := by
  rw [holdEntry_eq hn]
  exact stopSurvey_round s

@[simp] theorem startSurvey_round : (startSurvey s).survey.round = none := rfl

@[simp] theorem finishSurvey_round (r : SurveyState) : (finishSurvey r s).survey.round = none := by simp [finishSurvey]

@[simp] theorem finishSurvey_txn (r : SurveyState) : (finishSurvey r s).line.txn = s.line.txn := by simp [finishSurvey]

/-- Where the line is quiet no outcome is to come. -/
theorem workLawful_quiet {t : State} (hq : s.quiet = true) (hx : t.line.txn = s.line.txn) : workLawful t :=
  workLawful_idle fun x hxt => not_awaits_of_quiet hq x (hx ▸ hxt)

theorem work_rules : StepRules True True True workLawful where
  reset _ s _ := workLawful_idle fun x hx => by simp [resetBlocks, State.reset] at hx
  load _ s _ := workLawful_idle fun x hx => by simp [loadSettings, loadValues, resetBlocks, State.reset] at hx
  pool s p _ hq h := by
    rcases hq with hq | hq
    · exact workLawful_quiet hq rfl
    · exact workLawful_of h (fun x hx ha => ⟨x, hx, ha, rfl, rfl⟩) hq fun r hr hd => ⟨r, hr, hd, rfl⟩
  frameEnds s t p ht hph hp h := by
    refine workLawful_of h (fun x hx ha => ?_) (by simp [toPhase, State.setTxn]) fun r hr hd => ?_
    · simp only [frameBoundary_line] at hx
      cases hx
      rcases hp with rfl | ⟨rfl, hsend⟩
      · rcases ha.2 with hp | hp | hp <;> cases hp
      · exact ⟨t, ht, ⟨ha.1, .inl hsend⟩, rfl, rfl⟩
    · rcases frameBoundary_round (toPhase p t s) with e | e
      · exact ⟨r, e ▸ hr, hd, rfl⟩
      · rw [e] at hr
        cases hr
  windowEnds s t p ht hph hp h := by
    refine workLawful_of h (fun x hx ha => ?_) rfl fun r hr hd => ⟨r, hr, hd, rfl⟩
    cases hx
    exact ⟨t, ht, ⟨ha.1, .inr (.inl hph)⟩, rfl, rfl⟩
  contestBegins s t b _ _ _ := workLawful_idle fun x hx ha => by
    cases hx
    rcases ha.2 with hp | hp | hp <;> cases hp
  txnMarked s t b hit ht h := workLawful_of h (fun x hx ha => by
    cases hx
    exact ⟨t, ht, ha, rfl, rfl⟩) rfl fun r hr hd => ⟨r, hr, hd, rfl⟩
  released s t _ _ _ := workLawful_idle fun x hx => by cases hx
  begun s f u ht hf _ := by
    intro x hx _ _
    cases hx
    exact ⟨fun hu => hf.pool hu, fun r hu hr hd => hf.describe r hu hr hd⟩
  lineMarked s l hl h := workLawful_same h hl.txn rfl (.inl rfl)
  stops s _ h := workLawful_told h (by simp [enterOff, stopPolling]) (.inl (by simp))
  stopsSurvey s _ h := workLawful_told h (by simp [enterOff, stopPolling, addOwed])
    (by simpa using stopSurvey_round s)
  resets s h := workLawful_told h (by rw [lineReset_eq]) (lineReset_round s)
  holds s hn h := workLawful_told h (by rw [holdEntry_eq hn]; rfl) (holdEntry_round hn)
  surveyBegins s _ h := workLawful_same h (by simp [startSurvey]) (by simp) (.inr rfl)
  roundBegins s u _ ht _ _ _ := workLawful_idle fun x hx => by
    rw [show (s.setSurvey u).line.txn = s.line.txn from rfl, ht] at hx
    cases hx
  roundMoves s u r r' hr hr' hm _ h := workLawful_of h (fun x hx ha => ⟨x, hx, ha, rfl, rfl⟩) rfl fun q hq hd => by
    rw [show (s.setSurvey u).survey.round = u.round from rfl, hr'] at hq
    cases hq
    obtain ⟨hd₀, hc⟩ := hm.describe hd
    exact ⟨r, hr, hd₀, hc⟩
  winner s r i x check _ _ h := workLawful_of h (fun x hx ha => ⟨x, hx, ha, rfl, rfl⟩) rfl fun q hq hd => by
    cases hq
    cases hd
  seats s u r r' i x check hq _ _ _ _ _ _ _ _ _ := workLawful_quiet hq rfl
  rejoins s u r r' i hq _ _ _ _ _ _ _ _ := workLawful_quiet hq rfl
  roundEnds s u _ _ hu _ h := workLawful_same h rfl rfl (.inr hu)
  surveyEnds s r _ _ _ h := workLawful_same h (by simp) (by simp) (.inr (by simp))

/-! ## The identities (R2) -/

/-- R54: in the SEAT phase the chosen entry holds the winning identity or is FREE, and no other entry holds it. -/
def seatLawful (s : State) (i : Slot) (x : Identity) : Prop :=
  ((s.entry i).state ≠ .free → (s.entry i).identity = some x) ∧
    ∀ j : Slot, j ≠ i → (s.entry j).state ≠ .free → (s.entry j).identity ≠ some x

/-- R2: no two entries that are not FREE hold one identity. -/
def apart (s : State) : Prop := ∀ i j : Slot, (s.entry i).state ≠ .free → (s.entry j).state ≠ .free →
  (s.entry i).identity = (s.entry j).identity → i = j

/-- Nobody takes an entry and none takes another identity. -/
def noneTaken (s t : State) : Prop := ∀ i, (t.entry i).state ≠ .free →
  (s.entry i).state ≠ .free ∧ (t.entry i).identity = (s.entry i).identity

theorem apart_of {t : State} (h : apart s) (hn : noneTaken s t) : apart t := by
  intro i j hi hj hij
  obtain ⟨hi₀, hii⟩ := hn i hi
  obtain ⟨hj₀, hji⟩ := hn j hj
  exact h i j hi₀ hj₀ (by rw [← hii, ← hji, hij])

theorem seatLawful_of {t : State} {i : Slot} {x : Identity} (h : seatLawful s i x) (hn : noneTaken s t) :
    seatLawful t i x := by
  obtain ⟨hself, hother⟩ := h
  refine ⟨fun hi => ?_, fun j hj hjt => ?_⟩
  · obtain ⟨hi₀, hii⟩ := hn i hi
    rw [hii]
    exact hself hi₀
  · obtain ⟨hj₀, hji⟩ := hn j hjt
    rw [hji]
    exact hother j hj hj₀

/-- R2 is kept where no entry is taken and the SEAT phase, if it stands, is the one before. -/
theorem identitiesLawful_of {t : State} (h : identitiesLawful s) (hn : noneTaken s t)
    (hr : ∀ r, t.survey.round = some r → r.phase = .seat →
      ∃ r₀, s.survey.round = some r₀ ∧ r₀.phase = .seat ∧ r.chosen = r₀.chosen ∧ r.reading = r₀.reading) :
    identitiesLawful t := by
  obtain ⟨hapart, hseat⟩ := h
  refine ⟨apart_of hapart hn, fun r i x check hrt hp hc hx => ?_⟩
  obtain ⟨r₀, hr₀, hp₀, hc₀, hx₀⟩ := hr r hrt hp
  exact seatLawful_of (hseat r₀ i x check hr₀ hp₀ (hc₀ ▸ hc) (hx₀ ▸ hx)) hn

/-- R2 is kept where no entry is taken and the round stands or is gone. -/
theorem identitiesLawful_round {t : State} (h : identitiesLawful s) (hn : noneTaken s t)
    (hr : t.survey.round = s.survey.round ∨ t.survey.round = none) : identitiesLawful t :=
  identitiesLawful_of h hn fun r hrt hp => by
    rcases hr with e | e
    · exact ⟨r, e ▸ hrt, hp, rfl, rfl⟩
    · rw [e] at hrt
      cases hrt

theorem noneTaken_entries {t : State} (h : t.dir.entries = s.dir.entries) : noneTaken s t := fun i hi => by
  have he : t.entry i = s.entry i := by rw [State.entry, h, State.entry]
  rw [he] at hi ⊢
  exact ⟨hi, rfl⟩

theorem noneTaken_setEntry {i : Slot} {e : Entry}
    (he : e.state ≠ .free → (s.entry i).state ≠ .free ∧ e.identity = (s.entry i).identity) :
    noneTaken s (s.setEntry i e) := fun j hj => by
  by_cases e' : j = i
  · subst e'
    rw [entry_setEntry_self] at hj ⊢
    exact he hj
  · rw [entry_setEntry_ne _ e'] at hj ⊢
    exact ⟨hj, rfl⟩

theorem noneTaken_all {t : State} (he : ∀ i, (t.entry i).state = (s.entry i).state ∧
    (t.entry i).identity = (s.entry i).identity) : noneTaken s t := fun i hi => ⟨(he i).1 ▸ hi, (he i).2⟩

theorem describedEntry_claim (d : Descriptor) (prior : Option EntryState) {e : Entry}
    (h : (describedEntry d prior e).state ≠ .free) :
    e.state ≠ .free ∧ (describedEntry d prior e).identity = e.identity := by
  unfold describedEntry at h ⊢
  split
  · rename_i hs
    exact ⟨by simp [hs], (kindDefault_claim _ e).2.1⟩
  all_goals
    rename_i hs
    simp only [hs] at h
    exact ⟨hs ▸ h, rfl⟩

theorem redescribedEntry_claim (d : Descriptor) {e : Entry} (h : (redescribedEntry d e).state ≠ .free) :
    e.state ≠ .free ∧ (redescribedEntry d e).identity = e.identity := by
  unfold redescribedEntry at h ⊢
  split
  · rename_i hs
    exact ⟨by simp [hs], (kindDefault_claim _ e).2.1⟩
  all_goals
    rename_i hs
    simp only [hs] at h
    exact ⟨hs ▸ h, rfl⟩

/-- R54: the slot chosen for a winner holds its identity or is FREE, and no other entry holds it. -/
theorem slotChoice_lawful (h : apart s) {i : Slot} {x : Identity} (hi : s.slotChoice x = some i) :
    seatLawful s i x := by
  unfold State.slotChoice at hi
  split at hi
  · rename_i j hj
    cases hi
    have hfound := List.find?_some hj
    simp only [Bool.and_eq_true, decide_eq_true_eq] at hfound
    obtain ⟨htaken, hident⟩ := hfound
    exact ⟨fun _ => hident, fun k hk hkt hki => hk (h k i hkt htaken (hki.trans hident.symm))⟩
  · rename_i hnone
    have hother : ∀ j : Slot, (s.entry j).state ≠ .free → (s.entry j).identity ≠ some x := by
      intro j hj hx
      have := List.find?_eq_none.1 hnone j (mem_slots j)
      simp [hj, hx] at this
    have hfree : (s.entry i).state = .free := by
      split at hi
      · rename_i j hj
        cases hi
        have hfound := List.find?_some hj
        simp only [Bool.and_eq_true, decide_eq_true_eq] at hfound
        exact hfound.1
      · have hfound := List.find?_some hi
        simp only [Bool.and_eq_true, decide_eq_true_eq] at hfound
        exact hfound.1
    exact ⟨fun hn => absurd hfree hn, fun j _ => hother j⟩

theorem identitiesLawful_free {t : State} (he : ∀ i, (t.entry i).state = .free) : identitiesLawful t :=
  ⟨fun i _ hi => absurd (he i) hi, fun _ i _ _ _ _ _ _ =>
    ⟨fun hi => absurd (he i) hi, fun j _ hj => absurd (he j) hj⟩⟩

theorem identities_rules : StepRules False True True identitiesLawful where
  reset _ s _ := identitiesLawful_free fun i => by simp [State.entry, resetBlocks, State.reset, Entry.blank]
  load _ s _ := identitiesLawful_free fun i => by
    simp [State.entry, loadSettings, loadValues, resetBlocks, State.reset, Entry.blank]
  touched s i e he h := identitiesLawful_round h
    (noneTaken_setEntry fun _ => ⟨he.taken, he.identity⟩) (.inl rfl)
  paused s i ha h := identitiesLawful_round h (noneTaken_setEntry fun _ => ⟨by simp [ha], rfl⟩) (.inl rfl)
  activated s i hp h := identitiesLawful_round h (noneTaken_setEntry fun _ => ⟨by simp [hp], rfl⟩) (.inl rfl)
  freed s i h := identitiesLawful_round h
    (noneTaken_setEntry (i := i) (e := Entry.blank) fun hf => absurd rfl hf) (.inl rfl)
  lost s i ha h := identitiesLawful_round h
    (noneTaken_setEntry (e := lostEntry (s.entry i)) fun _ => ⟨by simp [ha], rfl⟩) (.inl rfl)
  described s i d prior _ h := identitiesLawful_round h
    (noneTaken_setEntry fun hf => describedEntry_claim d prior hf) (.inl rfl)
  redescribed s i d _ h := identitiesLawful_round h
    (noneTaken_setEntry fun hf => redescribedEntry_claim d hf) (.inl rfl)
  polls s _ _ _ h := identitiesLawful_round h (noneTaken_all fun i => by simp [State.entry, zeroMisses]) (.inl rfl)
  frameEnds s t p _ _ _ h := identitiesLawful_round h (noneTaken_entries (by simp [toPhase, State.setTxn]))
    (frameBoundary_round (toPhase p t s))
  directoryCleared s _ := identitiesLawful_free fun i => by simp [Entry.blank]
  stops s _ h := identitiesLawful_round h (noneTaken_entries (by simp)) (.inl (by simp))
  stopsSurvey s _ h := identitiesLawful_round h (noneTaken_entries (by simp)) (by simpa using stopSurvey_round s)
  resets s h := identitiesLawful_round h (noneTaken_entries (by simp)) (lineReset_round s)
  holds s hn h := identitiesLawful_round h
    (noneTaken_all fun i => by rw [holdEntry_eq hn]; simp [State.entry]) (holdEntry_round hn)
  surveyBegins s _ h := identitiesLawful_round h (noneTaken_entries (by simp)) (.inr rfl)
  roundBegins s u _ _ _ hu h := identitiesLawful_of h (fun i hi => ⟨hi, rfl⟩) fun r hr hp => by
    rw [show (s.setSurvey u).survey.round = u.round from rfl, hu] at hr
    cases hr
    cases hp
  roundMoves s u r r' hr hr' hm _ h := identitiesLawful_of h (fun i hi => ⟨hi, rfl⟩) fun q hq hp => by
    rw [show (s.setSurvey u).survey.round = u.round from rfl, hr'] at hq
    cases hq
    obtain ⟨hp₀, hc, hx⟩ := hm.seat hp
    exact ⟨r, hr, hp₀, hc, hx⟩
  winner s r i x check _ hi h := by
    refine ⟨h.1, fun q j y check' hq _ hj hy => ?_⟩
    cases hq
    cases hj
    cases hy
    exact slotChoice_lawful h.1 hi
  seats s u r r' i x check _ hr hp hc hx hfree hr' hp' _ h := by
    obtain ⟨hapart, hseat⟩ := h
    obtain ⟨_, hother⟩ := hseat r i x check hr hp hc hx
    have hself : (((seatNew i x s).setSurvey u).entry i).identity = some x :=
      congrArg Entry.identity (entry_setEntry_self s i _)
    have hrest : ∀ j, j ≠ i → ((seatNew i x s).setSurvey u).entry j = s.entry j := fun j hj =>
      entry_setEntry_ne s hj _
    refine ⟨fun j k hj hk hjk => ?_, fun q j y check' hq hpq => ?_⟩
    · by_cases ej : j = i <;> by_cases ek : k = i
      · rw [ej, ek]
      · subst ej
        rw [hrest k ek] at hk hjk
        exact absurd (hjk.symm.trans hself) (hother k ek hk)
      · subst ek
        rw [hrest j ej] at hj hjk
        exact absurd (hjk.trans hself) (hother j ej hj)
      · rw [hrest j ej] at hj hjk
        rw [hrest k ek] at hk hjk
        exact hapart j k hj hk hjk
    · rw [show ((seatNew i x s).setSurvey u).survey.round = u.round from rfl, hr'] at hq
      cases hq
      rw [hp'] at hpq
      cases hpq
  rejoins s u r r' i _ _ _ _ hf hr' hp' _ h := identitiesLawful_of h
    (noneTaken_setEntry (e := rejoinedEntry (s.entry i)) fun _ => ⟨hf, rfl⟩) fun q hq hpq => by
      rw [show ((rejoin i s).setSurvey u).survey.round = u.round from rfl, hr'] at hq
      cases hq
      rw [hp'] at hpq
      cases hpq
  roundEnds s u _ _ hu _ h := identitiesLawful_round h (fun i hi => ⟨hi, rfl⟩) (.inr hu)
  surveyEnds s r _ _ _ h := identitiesLawful_round h (noneTaken_entries (by simp)) (.inr (by simp))

/-! ## The bindings (R18) -/

theorem bindingsLawful_of {t : State} (h : bindingsLawful s) (hb : t.dir.bindings = s.dir.bindings) :
    bindingsLawful t := fun i j x => by
  rw [hb]
  exact h i j x

theorem eq_of_nodup_map {α β : Type} {f : α → β} {l : List α} (h : (l.map f).Nodup) {a b : α} (ha : a ∈ l) (hb : b ∈ l)
    (hab : f a = f b) : a = b := by
  induction l with
  | nil => cases ha
  | cons c rest ih =>
    obtain ⟨hc, hrest⟩ := List.nodup_cons.1 (List.map_cons ▸ h)
    have hno : ∀ d ∈ rest, f d ≠ f c := fun d hd e => hc (e ▸ List.mem_map_of_mem hd)
    rcases List.mem_cons.1 ha with hac | ha'
    · rcases List.mem_cons.1 hb with hbc | hb'
      · exact hac.trans hbc.symm
      · exact absurd (hac ▸ hab.symm) (hno b hb')
    · rcases List.mem_cons.1 hb with hbc | hb'
      · exact absurd (hbc ▸ hab) (hno a ha')
      · exact ih hrest ha' hb'

/-- R171: a whole image binds no identity twice. -/
theorem loadSettings_bindings (s : State) : bindingsLawful (loadSettings s) := by
  intro i j x hi hj
  unfold loadSettings at hi hj
  dsimp only [loadValues] at hi hj
  rw [cell_tabulate, Option.map_eq_some_iff] at hi hj
  obtain ⟨a, ha, rfl⟩ := hi
  obtain ⟨b, hb, hab⟩ := hj
  have hslots := List.find?_some ha
  have hslots' := List.find?_some hb
  rw [decide_eq_true_eq] at hslots hslots'
  split at ha
  · rename_i hw
    rw [if_pos hw] at hb
    simp only [imageWhole, bindingsWhole, Bool.and_eq_true, decide_eq_true_eq] at hw
    obtain ⟨_, _, hnodup⟩ := hw
    have hsame := eq_of_nodup_map hnodup (List.mem_of_find?_eq_some hb) (List.mem_of_find?_eq_some ha) hab
    subst hsame
    exact Fin.ext (by omega)
  · cases ha

theorem bindings_rules : StepRules False True True bindingsLawful where
  load _ s _ := loadSettings_bindings _
  polls s _ _ _ h := bindingsLawful_of h rfl
  binds s i x h := by
    have hother : ∀ j y, j ≠ i → cell (bindTo i x s).dir.bindings j = some y →
        cell s.dir.bindings j = some y ∧ y ≠ x := by
      intro j y hj hy
      simp only [bindTo, cell_putCell_ne _ hj, cell_mapCells] at hy
      split at hy
      · cases hy
      · rename_i hne
        exact ⟨hy, fun e => hne (e ▸ hy)⟩
    have hself : ∀ y, cell (bindTo i x s).dir.bindings i = some y → y = x := by
      intro y hy
      simp only [bindTo, cell_putCell_self] at hy
      cases hy
      rfl
    intro j k y hj hk
    by_cases ej : j = i <;> by_cases ek : k = i
    · rw [ej, ek]
    · subst ej
      exact absurd (hself y hj) (hother k y ek hk).2
    · subst ek
      exact absurd (hself y hk) (hother j y ej hj).2
    · exact h j k y (hother j y ej hj).1 (hother k y ek hk).1
  unbinds s i h := by
    have hold : ∀ j y, cell (putCell s.dir.bindings i none) j = some y → cell s.dir.bindings j = some y := by
      intro j y hy
      by_cases ej : j = i
      · subst ej
        rw [cell_putCell_self] at hy
        cases hy
      · rwa [cell_putCell_ne _ ej] at hy
    exact fun j k y hj hk => h j k y (hold j y hj) (hold k y hk)
  frameEnds s t p _ _ _ h := bindingsLawful_of h (by simp [toPhase, State.setTxn])
  stops s _ h := bindingsLawful_of h (by simp)
  stopsSurvey s _ h := bindingsLawful_of h (by simp)
  resets s h := bindingsLawful_of h (by simp)
  holds s hn h := bindingsLawful_of h (by rw [holdEntry_eq hn])
  surveyBegins s _ h := bindingsLawful_of h (by simp)
  surveyEnds s r _ _ _ h := bindingsLawful_of h (by simp)

end Sys2Proof.Machine

namespace Sys2Proof.Proofs

open Sys2Proof Sys2Proof.Machine

/-- Settles O55: the answers that are judged fit, by the laws of the entries and of the work on the line, so every
elementary change keeps each of the three laws. -/
theorem entriesAndRingsStayLawful : Obligations.EntriesAndRingsStayLawful := by
  intro s t ⟨hdir, hrings, hwork⟩ hstep
  have hknown : True → directoryLawful s ∧ workLawful s := fun _ => ⟨hdir, hwork⟩
  exact ⟨directory_rules.step_keeps (fun _ _ h => h) trivial trivial hknown hdir hstep,
    rings_rules.step_keeps (fun _ _ h => h) trivial trivial hknown hrings hstep,
    work_rules.step_keeps (fun _ _ h => h) trivial trivial hknown hwork hstep⟩

/-- Settles O56: the slot choice finds the entry that holds an identity first, and a binding moves its identity. -/
theorem identitiesAndBindingsStayApart : Obligations.IdentitiesAndBindingsStayApart :=
  ⟨fun _ _ h hstep => identities_rules.step_keeps (fun _ _ h => h) trivial trivial False.elim h hstep,
    fun _ _ h hstep => bindings_rules.step_keeps (fun _ _ h => h) trivial trivial False.elim h hstep⟩

end Sys2Proof.Proofs
end
section
/-! PROOFS. The law that ties the timers and the survey to the line state: how each elementary change keeps it. -/

namespace Sys2Proof.Machine

variable {s : State}

/-! ## A survey frame on the line -/

@[simp] theorem toldToEnd_user (x : Transaction) : (toldToEnd x).user = x.user := by
  unfold toldToEnd
  split <;> rfl

@[simp] theorem toldToEnd_phase (x : Transaction) : (toldToEnd x).phase = x.phase := by
  unfold toldToEnd
  split <;> rfl

/-- R63: an abort leaves the survey's frame, answer or contest on the line. -/
theorem surveyFrameRuns_told {t : State} (hr : t.survey.round.isSome = s.survey.round.isSome)
    (hx : t.line.txn = s.line.txn.map toldToEnd) : t.surveyFrameRuns = s.surveyFrameRuns := by
  unfold State.surveyFrameRuns
  rw [hx, hr]
  cases s.line.txn <;> simp

theorem surveyFrameRuns_same {t : State} (hr : t.survey.round.isSome = s.survey.round.isSome)
    (hx : t.line.txn = s.line.txn) : t.surveyFrameRuns = s.surveyFrameRuns := by
  unfold State.surveyFrameRuns
  rw [hx, hr]

theorem surveyFrameRuns_none (h : s.line.txn = none) : s.surveyFrameRuns = false := by simp [State.surveyFrameRuns, h]

theorem surveyFrameRuns_idle {t : Transaction} (ht : s.line.txn = some t) (h : t.phase = .wait ∨ t.phase = .space) :
    s.surveyFrameRuns = false := by
  rcases h with h | h <;> simp [State.surveyFrameRuns, ht, h]

/-! ## The law and what it is about -/

/-- Where no survey frame is on the line, a lawful survey is not still to stop. -/
theorem not_stopping (h : lineLawful s) (hf : s.surveyFrameRuns = false) : s.survey.stopping = false := by
  obtain ⟨_, _, _, _, hstop, _⟩ := h
  refine Classical.byContradiction fun hn => ?_
  have := (hstop (by simpa using hn)).2
  rw [hf] at this
  cases this

/-- The law is kept where the line state, the timers and the survey are as they were. -/
theorem lineLawful_of {t : State} (h : lineLawful s) (hc : t.sched.cycle.isSome = s.sched.cycle.isSome)
    (hl : t.line.state = s.line.state) (hs : t.line.silence = s.line.silence)
    (hh : t.line.haltTimer = true → s.line.haltTimer = true ∨ s.line.state = .held)
    (hr : t.survey.record.state = s.survey.record.state) (hp : t.survey.stopping = s.survey.stopping)
    (hd : t.survey.round.isSome = true → s.survey.round.isSome = true ∨ s.line.state = .survey)
    (hf : s.survey.stopping = true → s.surveyFrameRuns = true → t.surveyFrameRuns = true) : lineLawful t := by
  obtain ⟨hcycle, hsilence, hrecord, hround, hstop, htimer⟩ := h
  unfold lineLawful
  rw [hc, hl, hs, hr, hp]
  refine ⟨hcycle, hsilence, hrecord, fun ht => ?_, fun ht => ?_, fun ht => ?_⟩
  · exact (hd ht).elim hround .inl
  · obtain ⟨hne, hruns⟩ := hstop ht
    exact ⟨hne, hf ht hruns⟩
  · exact (hh ht).elim htimer id

/-- The law is kept where only the transaction changes, and a survey frame that is on the line stays there. -/
theorem lineLawful_txn {t : State} (h : lineLawful s) (hc : t.sched.cycle = s.sched.cycle)
    (hl : t.line.state = s.line.state) (hs : t.line.silence = s.line.silence)
    (hh : t.line.haltTimer = s.line.haltTimer) (hv : t.survey = s.survey)
    (hf : s.survey.stopping = true → s.surveyFrameRuns = true → t.surveyFrameRuns = true) : lineLawful t :=
  lineLawful_of h (by rw [hc]) hl hs (fun e => .inl (hh ▸ e)) (by rw [hv]) (by rw [hv]) (fun e => .inl (hv ▸ e)) hf

/-- The law is kept where the survey goes on with a round. -/
theorem lineLawful_round {t : State} {u : SurveyUnit} {r r' : Round} (h : lineLawful s) (hc : t.sched.cycle = s.sched.cycle)
    (hl : t.line = s.line) (hv : t.survey = u) (hr : s.survey.round = some r) (hr' : u.round = some r')
    (hg : SurveyGoesOn s.survey u) : lineLawful t :=
  lineLawful_of h (by rw [hc]) (by rw [hl]) (by rw [hl]) (fun e => .inl (hl ▸ e)) (hv ▸ hg.state) (hv ▸ hg.stopping)
    (fun _ => .inl (by rw [hr]; rfl))
    fun _ hf => by rwa [surveyFrameRuns_same (s := s) (by rw [hv, hr, hr']; rfl) (by rw [hl])]

/-- No survey runs, and none is still to stop. -/
theorem lineLawful_noSurvey {t : State} (hc : t.sched.cycle.isSome = true ↔ t.line.state = .running)
    (hs : t.line.silence = true ↔ t.line.state = .running) (hh : t.line.haltTimer = true → t.line.state = .held)
    (hl : t.line.state ≠ .survey) (hr : t.survey.record.state ≠ .running) (hround : t.survey.round = none)
    (hp : t.survey.stopping = false) : lineLawful t :=
  ⟨hc, hs, ⟨fun e => absurd e hr, fun e => by simp [hl, hp] at e⟩, fun e => by simp [hround] at e,
    fun e => by simp [hp] at e, hh⟩

/-! ## Stops, holds and resets -/

/-- What a survey that was told to stop keeps to, whatever the line state becomes. -/
def stopLawful (s : State) : Prop :=
  (s.survey.record.state = .running ↔ s.survey.stopping = true) ∧
    (s.survey.round.isSome = true → s.survey.stopping = true) ∧
    (s.survey.stopping = true → s.surveyFrameRuns = true)

theorem stopLawful_stopSurvey (h : lineLawful s) : stopLawful (stopSurvey s) := by
  obtain ⟨_, _, hrecord, hround, hstop, _⟩ := h
  by_cases hl : s.line.state = .survey
  · by_cases hf : s.surveyFrameRuns = true
    · rw [stopSurvey_running hl hf]
      exact ⟨iff_of_true (hrecord.2 (.inl hl)) rfl, fun _ => rfl, fun _ => hf⟩
    · rw [stopSurvey_now hl (by simpa using hf)]
      unfold stopLawful
      rw [surveyStops_survey]
      exact ⟨by simp, by simp, by simp⟩
  · rw [stopSurvey_none hl]
    exact ⟨by simpa [hl] using hrecord, fun e => by simpa [hl] using hround e, fun e => (hstop e).2⟩

theorem stopLawful_clearRounds (h : stopLawful s) : stopLawful (clearRounds s) := by
  obtain ⟨hrecord, _, _⟩ := id h
  unfold clearRounds
  split
  · exact h
  · rename_i hn
    exact ⟨hrecord, nofun, fun e => absurd e hn⟩

/-- The law holds of a line that stands, OFF or HELD, with its survey told to stop and its frame told to end. -/
theorem lineLawful_stands {t u : State} (h : stopLawful u) (hv : t.survey = u.survey)
    (hx : t.line.txn = u.line.txn.map toldToEnd) (hl : t.line.state = .off ∨ t.line.state = .held)
    (hc : t.sched.cycle = none) (hs : t.line.silence = false) (hh : t.line.haltTimer = false) : lineLawful t := by
  obtain ⟨hrecord, hround, hstop⟩ := h
  have hrun : t.line.state ≠ .running := by rcases hl with e | e <;> simp [e]
  have hsur : t.line.state ≠ .survey := by rcases hl with e | e <;> simp [e]
  refine ⟨by simp [hc, hrun], by simp [hs, hrun], ?_, fun e => .inr ?_, fun e => ⟨hsur, ?_⟩, by simp [hh]⟩
  · rw [hv]
    simpa [hsur] using hrecord
  · rw [hv] at e ⊢
    exact hround e
  · rw [surveyFrameRuns_told (s := u) (by rw [hv]) hx]
    exact hstop (hv ▸ e)

/-! ## The rules -/

theorem lineLawful_frameEnds (t : Transaction) (p : LinePhase) (h : lineLawful s) : lineLawful (frameBoundary (toPhase p t s)) := by
  obtain ⟨hcycle, hsilence, _, _, hstop, htimer⟩ := id h
  cases hv : s.survey.stopping
  · rw [frameBoundary_none (s := toPhase p t s) hv]
    exact lineLawful_txn h rfl rfl rfl rfl rfl fun e => absurd e (by simp [hv])
  · have hb : frameBoundary (toPhase p t s) = surveyStops (toPhase p t s) := by
      rw [frameBoundary, if_pos (show (toPhase p t s).survey.stopping = true from hv)]
    rw [hb]
    exact lineLawful_noSurvey (by rw [surveyStops_sched, surveyStops_line]; exact hcycle)
      (by rw [surveyStops_line]; exact hsilence) (by rw [surveyStops_line]; exact htimer)
      (by rw [surveyStops_line]; exact (hstop hv).1) (by rw [surveyStops_survey]; exact nofun)
      (by rw [surveyStops_survey]) (by rw [surveyStops_survey])

theorem line_rules : StepRules False True True lineLawful where
  reset _ s _ := lineLawful_noSurvey (by simp [resetBlocks, State.reset]) (by simp [resetBlocks, State.reset])
    (by simp [resetBlocks, State.reset]) (by simp [resetBlocks, State.reset])
    (by simp [resetBlocks, State.reset, SurveyRecord.blank]) rfl rfl
  load _ s _ := lineLawful_noSurvey (by simp [loadSettings, loadValues, resetBlocks, State.reset])
    (by simp [loadSettings, loadValues, resetBlocks, State.reset])
    (by simp [loadSettings, loadValues, resetBlocks, State.reset])
    (by simp [loadSettings, loadValues, resetBlocks, State.reset])
    (by simp [loadSettings, loadValues, resetBlocks, State.reset, SurveyRecord.blank]) rfl rfl
  time s n h := lineLawful_of h (by simp [State.passTime]) rfl rfl .inl rfl rfl .inl fun _ hf => hf
  frameEnds s t p _ _ _ h := lineLawful_frameEnds t p h
  windowEnds s t p ht hph _ h := lineLawful_txn h rfl rfl rfl rfl rfl fun hv => by
    rw [not_stopping h (surveyFrameRuns_idle ht (.inl hph))] at hv
    cases hv
  contestBegins s t b ht hph h := lineLawful_txn h rfl rfl rfl rfl rfl fun _ hf => by
    simpa [State.surveyFrameRuns, State.setTxn, ht, hph] using hf
  txnMarked s t b hit ht h := lineLawful_txn h rfl rfl rfl rfl rfl fun _ hf => by
    simpa [State.surveyFrameRuns, State.setTxn, ht] using hf
  released s t ht hph h := lineLawful_txn h rfl rfl rfl rfl rfl fun hv => by
    rw [not_stopping h (surveyFrameRuns_idle ht (.inr hph))] at hv
    cases hv
  begun s f u ht _ h := lineLawful_txn h rfl rfl rfl rfl rfl fun hv => by
    rw [not_stopping h (surveyFrameRuns_none ht)] at hv
    cases hv
  lineMarked s l hl h := lineLawful_txn h rfl hl.state hl.silence hl.haltTimer rfl fun _ hf => by
    rwa [surveyFrameRuns_same (s := s) (t := s.setLine l) rfl hl.txn]
  haltTimer s hl h := lineLawful_of h rfl rfl rfl (fun _ => .inr hl) rfl rfl .inl fun _ hf => hf
  cycles s hl h := lineLawful_of h (by simp [cycleStart, h.1.2 hl]) rfl rfl .inl rfl rfl .inl fun _ hf => hf
  runs s hl h := by
    obtain ⟨_, _, hrecord, hround, hstop, _⟩ := h
    have hne : s.line.state ≠ .survey := by rcases hl with e | e <;> simp [e]
    refine ⟨by simp [enterRunning, cycleStart], by simp [enterRunning], ?_, fun e => .inr ?_, fun e => ⟨?_, ?_⟩, ?_⟩
    · simpa [enterRunning, hne] using hrecord
    · simpa [hne] using hround e
    · simp [enterRunning]
    · exact (hstop e).2
    · simp [enterRunning]
  stops s hl h := by
    have hsame : stopSurvey s = s := stopSurvey_none (by simp [hl])
    exact lineLawful_stands (stopLawful_stopSurvey h) (by rw [hsame]; simp) (by simp [enterOff, stopPolling])
      (.inl rfl) rfl rfl rfl
  stopsSurvey s hl h := lineLawful_stands (stopLawful_stopSurvey h) (by simp) (by simp [enterOff, stopPolling])
    (.inl rfl) rfl rfl rfl
  resets s h := by
    rw [lineReset_eq]
    refine lineLawful_stands (stopLawful_clearRounds (stopLawful_stopSurvey h)) rfl ?_ (.inl rfl) rfl rfl rfl
    have hline : (clearRounds (stopSurvey s)).line = (stopSurvey s).line := by unfold clearRounds; split <;> rfl
    rw [hline, stopSurvey_line]
  holds s hn h := by
    rw [holdEntry_eq hn]
    exact lineLawful_stands (stopLawful_stopSurvey h) rfl (by rw [stopSurvey_line]; rfl) (.inr rfl) rfl rfl rfl
  surveyBegins s hl h := by
    obtain ⟨_, _, _, _, _, htimer⟩ := h
    refine ⟨by simp [startSurvey], by simp [startSurvey], by simp [startSurvey], nofun, nofun, fun e => ?_⟩
    have hheld := htimer (by simpa [startSurvey] using e)
    rw [hl] at hheld
    cases hheld
  roundBegins s u hl ht hg hu h := lineLawful_of h rfl rfl rfl .inl hg.state hg.stopping (fun _ => .inr hl) fun hv => by
    rw [not_stopping h (surveyFrameRuns_none ht)] at hv
    cases hv
  roundMoves s u r r' hr hr' _ hg h := lineLawful_round h rfl rfl rfl hr hr' hg
  winner s r i x check hr _ h := lineLawful_round h rfl rfl rfl hr rfl ⟨rfl, rfl⟩
  seats s u r r' i x check _ hr _ _ _ _ hr' _ hg h := lineLawful_round h rfl rfl rfl hr hr' hg
  rejoins s u r r' i _ hr _ _ _ hr' _ hg h := lineLawful_round h rfl rfl rfl hr hr' hg
  roundEnds s u _ hf hu hg h := lineLawful_of h rfl rfl rfl .inl hg.state hg.stopping
    (fun e => by simp [State.setSurvey, hu] at e) fun hv hruns => by
      rw [hf hv] at hruns
      cases hruns
  surveyEnds s r hr hround hf h := by
    obtain ⟨_, _, _, hrounds, hstop, htimer⟩ := h
    have hv : s.survey.stopping = false := by
      refine Classical.byContradiction fun hn => ?_
      have hv : s.survey.stopping = true := by simpa using hn
      have := (hstop hv).2
      rw [hf hv] at this
      cases this
    have hl : s.line.state = .survey := by simpa [hv] using hrounds hround
    have hh : s.line.haltTimer = false := by
      refine Classical.byContradiction fun hn => ?_
      have := htimer (by simpa using hn)
      rw [hl] at this
      cases this
    exact lineLawful_noSurvey (by simp [finishSurvey, cycleStart]) (by simp [finishSurvey])
      (by simp [finishSurvey, hh]) (by simp [finishSurvey]) (by simpa [finishSurvey] using hr)
      (by simp) (by simp [finishSurvey, hv])

end Sys2Proof.Machine
end
section
/-! PROOFS. No hold is left asked for between two commands: an event that raises a fault ends in a settling, which takes the
hold, and no other event asks for one. -/

namespace Sys2Proof.Machine

variable {s : State}

/-! ## Settling takes the hold -/

theorem completeRequest_faults (r : PoolRequest) (o : PoolOutcome) (data : List Byte) :
    (completeRequest r o data s).faults = s.faults := by
  unfold completeRequest completionClaim
  split
  · split <;> rfl
  · rfl
  · rfl

theorem startRequest_faults (r : PoolRequest) (rest : List PoolRequest) :
    (startRequest r rest s).faults = s.faults := by
  unfold startRequest
  dsimp only
  split
  · exact completeRequest_faults r _ _
  · exact completeRequest_faults r _ _
  all_goals rfl

theorem beginSurveyFrame_faults : (beginSurveyFrame s).faults = s.faults := by
  unfold beginSurveyFrame
  split
  · rfl
  · split <;> rfl

/-- Taking up the next frame touches no fault record and asks for no hold. -/
@[simp] theorem service_faults : (service s).faults = s.faults :=
  service_keeps (P := fun t => t.faults = s.faults) (fun _ _ _ h => h)
    (fun r rest _ _ h => (startRequest_faults r rest).trans h) (fun _ _ _ h => h) (fun _ _ _ _ h => h)
    (fun _ _ _ h => h) (fun _ _ h => beginSurveyFrame_faults.trans h) rfl

/-- R146: what settles has taken the hold that was asked for. -/
theorem settle_noHold (s : State) : (settle s).noHoldAsked := by
  rw [settle, State.noHoldAsked, service_faults]
  unfold takeHold
  split
  · rw [holdEntry_faults]
  · rename_i h
    simpa using h

/-! ## The owners' decisions -/

theorem ownStartLine_noHold (h : s.noHoldAsked) : (ownStartLine s).1.noHoldAsked := by
  unfold ownStartLine
  split
  · split
    · exact h
    · exact settle_noHold _
  all_goals exact h

theorem ownStopLine_noHold (h : s.noHoldAsked) : (ownStopLine s).1.noHoldAsked := by
  unfold ownStopLine
  split
  · exact h
  · exact settle_noHold _
  · exact settle_noHold _
  · exact h

theorem ownHoldLine_noHold (h : s.noHoldAsked) : (ownHoldLine s).1.noHoldAsked := by
  unfold ownHoldLine
  split
  case h_4 => exact h
  all_goals exact settle_noHold _

theorem ownResumeLine_noHold (h : s.noHoldAsked) : (ownResumeLine s).1.noHoldAsked := by
  unfold ownResumeLine
  split
  case h_4 =>
    split
    · exact h
    · exact settle_noHold _
  all_goals exact h

theorem ownSetLineRate_noHold (rate : Byte) (h : s.noHoldAsked) : (ownSetLineRate rate s).1.noHoldAsked := by
  unfold ownSetLineRate
  split
  · split
    · exact h
    · exact h
  · exact h

theorem ownSurvey_noHold (h : s.noHoldAsked) : (ownSurvey s).1.noHoldAsked := by
  unfold ownSurvey
  split
  · exact (congrArg (fun f => f.holdAsked) startSurvey_faults).trans h
  all_goals exact h

theorem ownSetPoll_noHold (period : BitVec 16) (missLimit : Byte) (h : s.noHoldAsked) :
    (ownSetPoll period missLimit s).1.noHoldAsked := by
  unfold ownSetPoll
  split
  · exact h
  · exact h

theorem ownPause_noHold (slot : Byte) (h : s.noHoldAsked) : (ownPause slot s).1.noHoldAsked := by
  refine keeps_withSlot h fun i => ?_
  split <;> exact h

theorem ownActivate_noHold (slot : Byte) (h : s.noHoldAsked) : (ownActivate slot s).1.noHoldAsked := by
  refine keeps_withSlot h fun i => ?_
  split <;> exact h

theorem ownForget_noHold (slot : Byte) (h : s.noHoldAsked) : (ownForget slot s).1.noHoldAsked := by
  refine keeps_withSlot h fun i => ?_
  split
  · exact h
  · split <;> exact h

theorem ownOpenGate_noHold (slot : Byte) (h : s.noHoldAsked) : (ownOpenGate slot s).1.noHoldAsked := by
  refine keeps_withSlot h fun i => ?_
  split
  · exact h
  · split
    · exact h
    · split <;> exact h

theorem ownCloseGate_noHold (slot : Byte) (h : s.noHoldAsked) : (ownCloseGate slot s).1.noHoldAsked :=
  keeps_withNode h fun _ _ => h

theorem ownSetGateMode_noHold (slot mode : Byte) (h : s.noHoldAsked) : (ownSetGateMode slot mode s).1.noHoldAsked := by
  unfold ownSetGateMode
  split
  · exact h
  · exact keeps_withNode h fun _ _ => h

theorem ownBind_noHold (slot : Byte) (h : s.noHoldAsked) : (ownBind slot s).1.noHoldAsked := by
  refine keeps_withSlot h fun i => ?_
  split
  · exact h
  · split
    · exact h
    · exact h
    · split <;> exact h

theorem ownUnbind_noHold (slot : Byte) (h : s.noHoldAsked) : (ownUnbind slot s).1.noHoldAsked := by
  refine keeps_withSlot h fun i => ?_
  split <;> exact h

theorem ownAssignRing_noHold (slot : Byte) (base size : BitVec 16) (policy : Byte) (watermark : BitVec 16)
    (h : s.noHoldAsked) : (ownAssignRing slot base size policy watermark s).1.noHoldAsked := by
  unfold ownAssignRing
  split
  · exact h
  · split
    · refine keeps_withNode h fun i _ => ?_
      split <;> exact h
    · exact h

theorem ownSetRing_noHold (slot policy : Byte) (watermark : BitVec 16) (h : s.noHoldAsked) :
    (ownSetRing slot policy watermark s).1.noHoldAsked := by
  unfold ownSetRing
  split
  · exact h
  · split
    · exact h
    · refine keeps_withRing h fun i r _ _ => ?_
      split <;> exact h

theorem ownFetch_noHold (slot max : Byte) (h : s.noHoldAsked) : (ownFetch slot max s).1.noHoldAsked := by
  unfold ownFetch
  split
  · exact keeps_withRing h fun _ _ _ _ => h
  · exact h

theorem ownPoolRequest_noHold (tag slot : Byte) (valid : Bool) (work : PoolWork) (h : s.noHoldAsked) :
    (ownPoolRequest tag slot valid work s).1.noHoldAsked := by
  unfold ownPoolRequest
  split
  · exact h
  · refine keeps_withSlot h fun i => ?_
    split
    · exact h
    · split
      · exact h
      · split
        · exact h
        · split
          · exact h
          · split
            · exact h
            · exact settle_noHold _

theorem ownTakeResults_noHold (max : Byte) (h : s.noHoldAsked) : (ownTakeResults max s).1.noHoldAsked := by
  unfold ownTakeResults
  split <;> exact h

theorem ownCancel_noHold (tag : Byte) (h : s.noHoldAsked) : (ownCancel tag s).1.noHoldAsked := by
  unfold ownCancel
  split
  · exact h
  · split
    · exact h
    · split
      · exact h
      · split <;> exact h

theorem ownFaultAck_noHold (kind : Byte) (h : s.noHoldAsked) : (ownFaultAck kind s).1.noHoldAsked := by
  refine keeps_withKind h fun k => ?_
  split <;> exact h

theorem ownClearFault_noHold (kind : Byte) (h : s.noHoldAsked) : (ownClearFault kind s).1.noHoldAsked := by
  refine keeps_withKind h fun k => ?_
  split <;> exact h

theorem ownSetReaction_noHold (kind reaction : Byte) (h : s.noHoldAsked) :
    (ownSetReaction kind reaction s).1.noHoldAsked := by
  refine keeps_withKind h fun k => ?_
  split <;> exact h

theorem ownSetAckWindow_noHold (window : BitVec 16) (h : s.noHoldAsked) :
    (ownSetAckWindow window s).1.noHoldAsked := by
  unfold ownSetAckWindow
  split <;> exact h

theorem ownInjectFault_noHold (kind slot detail : Byte) (h : s.noHoldAsked) :
    (ownInjectFault kind slot detail s).1.noHoldAsked := by
  refine keeps_withKind h fun k => ?_
  split
  · exact h
  · exact settle_noHold _

theorem ownStoreSettings_noHold (h : s.noHoldAsked) : (ownStoreSettings s).1.noHoldAsked := by
  unfold ownStoreSettings
  split <;> exact h

theorem ownRestart_noHold (h : s.noHoldAsked) : (ownRestart s).1.noHoldAsked := by
  unfold ownRestart
  split <;> exact h

theorem ownSetLinkRate_noHold (rate : Byte) (h : s.noHoldAsked) : (ownSetLinkRate rate s).1.noHoldAsked := by
  unfold ownSetLinkRate
  split
  · exact h
  · split <;> exact h

theorem ownSetAttention_noHold (enables : Byte) (h : s.noHoldAsked) : (ownSetAttention enables s).1.noHoldAsked := by
  unfold ownSetAttention
  split <;> exact h

/-! ## The receiver -/

theorem request_noHold {code : Byte} {early : Bool} {owner : State → State × Status × List Byte} (h : s.noHoldAsked)
    (ho : (owner s).1.noHoldAsked) : (request code early owner s).noHoldAsked :=
  request_keeps code early owner s (P := State.noHoldAsked) h (fun _ _ _ _ ht => ht) h ho

theorem requestIfFits_noHold {fits : Bool} {code : Byte} {owner : State → State × Status × List Byte}
    (h : s.noHoldAsked) (ho : (owner s).1.noHoldAsked) : (requestIfFits fits code owner s).noHoldAsked := by
  unfold requestIfFits
  split
  · exact request_noHold h ho
  · exact request_noHold h h

theorem takeRequest_noHold (c : Instr) (h : s.noHoldAsked) : (takeRequest c s).noHoldAsked := by
  cases c with
  | status => exact request_noHold h h
  | identify => exact request_noHold h h
  | readCauses => exact request_noHold h h
  | clearCauses => exact request_noHold h h
  | restart => exact request_noHold h (ownRestart_noHold h)
  | storeSettings => exact request_noHold h (ownStoreSettings_noHold h)
  | setLabel label => exact requestIfFits_noHold h h
  | setLinkRate rate => exact request_noHold h (ownSetLinkRate_noHold rate h)
  | setAttention enables => exact request_noHold h (ownSetAttention_noHold enables h)
  | startLine => exact request_noHold h (ownStartLine_noHold h)
  | stopLine => exact request_noHold h (ownStopLine_noHold h)
  | holdLine => exact request_noHold h (ownHoldLine_noHold h)
  | resumeLine => exact request_noHold h (ownResumeLine_noHold h)
  | resetLine => exact request_noHold h (settle_noHold _)
  | setLineRate rate => exact request_noHold h (ownSetLineRate_noHold rate h)
  | survey => exact request_noHold h (ownSurvey_noHold h)
  | surveyResult => exact request_noHold h h
  | setPoll period missLimit => exact request_noHold h (ownSetPoll_noHold period missLimit h)
  | listNodes first => exact request_noHold h (keeps_withSlot h fun _ => h)
  | nodeInfo slot => exact request_noHold h (keeps_withSlot h fun _ => h)
  | dirChanges => exact request_noHold h h
  | pause slot => exact request_noHold h (ownPause_noHold slot h)
  | activate slot => exact request_noHold h (ownActivate_noHold slot h)
  | forget slot => exact request_noHold h (ownForget_noHold slot h)
  | openGate slot => exact request_noHold h (ownOpenGate_noHold slot h)
  | closeGate slot => exact request_noHold h (ownCloseGate_noHold slot h)
  | setGateMode slot mode => exact request_noHold h (ownSetGateMode_noHold slot mode h)
  | bind slot => exact request_noHold h (ownBind_noHold slot h)
  | unbind slot => exact request_noHold h (ownUnbind_noHold slot h)
  | listBindings => exact request_noHold h h
  | assignRing slot base size policy watermark =>
    exact request_noHold h (ownAssignRing_noHold slot base size policy watermark h)
  | setRing slot policy watermark => exact request_noHold h (ownSetRing_noHold slot policy watermark h)
  | releaseRing slot => exact request_noHold h (keeps_withRing h fun _ _ _ _ => h)
  | fetch slot max => exact request_noHold h (ownFetch_noHold slot max h)
  | peek slot skip max => exact request_noHold h (StepRules.keeps_ownPeek slot skip max h)
  | flushRing slot => exact request_noHold h (keeps_withRing h fun _ _ _ _ => h)
  | ringInfo slot => exact request_noHold h (keeps_withRing h fun _ _ _ _ => h)
  | nodeRead tag slot item => exact request_noHold h (ownPoolRequest_noHold tag slot _ _ h)
  | nodeWrite tag slot item values => exact requestIfFits_noHold h (ownPoolRequest_noHold tag slot _ _ h)
  | nodeDescribe tag slot => exact request_noHold h (ownPoolRequest_noHold tag slot _ _ h)
  | nodeRelease tag slot => exact request_noHold h (ownPoolRequest_noHold tag slot _ _ h)
  | nodeTest tag slot pattern => exact request_noHold h (ownPoolRequest_noHold tag slot _ _ h)
  | takeResults max => exact request_noHold h (ownTakeResults_noHold max h)
  | cancel tag => exact request_noHold h (ownCancel_noHold tag h)
  | faultSummary => exact request_noHold h h
  | faultRecord kind => exact request_noHold h (keeps_withKind h fun _ => h)
  | faultAck kind => exact request_noHold h (ownFaultAck_noHold kind h)
  | clearFault kind => exact request_noHold h (ownClearFault_noHold kind h)
  | setReaction kind reaction => exact request_noHold h (ownSetReaction_noHold kind reaction h)
  | setAckWindow window => exact request_noHold h (ownSetAckWindow_noHold window h)
  | injectFault kind slot detail => exact request_noHold h (ownInjectFault_noHold kind slot detail h)
  | _ => exact h

theorem judgeFrame_noHold (body : List Byte) (high low : Byte) (h : s.noHoldAsked) :
    (judgeFrame body high low s).noHoldAsked := by
  unfold judgeFrame
  split
  · split
    · exact takeRequest_noHold _ h
    · unfold answerFrame
      split <;> exact h
  · unfold rejectFrame answerFrame
    split <;> exact h

theorem takeByte_noHold (b : Byte) (h : s.noHoldAsked) : (takeByte s b).noHoldAsked := by
  unfold takeByte
  split
  · unfold takeHunt
    split
    · dsimp only
      split <;> exact h
    · exact h
  · unfold takeLength
    split <;> exact h
  · exact h
  · unfold takeCheck
    split
    · exact h
    · split
      · exact h
      · exact judgeFrame_noHold _ _ _ h

theorem takeBytes_noHold : ∀ (chars : List Byte) {s : State}, s.noHoldAsked → (chars.foldl takeByte s).noHoldAsked
  | [], _, h => h
  | b :: rest, _, h => takeBytes_noHold rest (takeByte_noHold b h)

theorem arrive_noHold (chars : List Byte) (h : s.noHoldAsked) : (arrive chars s).noHoldAsked := by
  unfold arrive
  split
  · exact h
  · exact takeBytes_noHold _ h

theorem gapPasses_noHold (h : s.noHoldAsked) : (gapPasses s).noHoldAsked := by
  unfold gapPasses
  split <;> exact h

theorem breakChar_noHold (levels : List PinLevel) (h : s.noHoldAsked) : (breakChar levels s).noHoldAsked := by
  unfold breakChar
  split <;> exact h

theorem arriveWithin_noHold (within : Option (List Byte)) (h : s.noHoldAsked) :
    (arriveWithin within s).noHoldAsked := by
  unfold arriveWithin
  split
  · exact arrive_noHold _ h
  · exact h

/-! ## Starts and settings -/

theorem beginStart_noHold (causes : BitVec 3) : (beginStart causes s).noHoldAsked := by
  unfold beginStart
  dsimp only
  split <;> rfl

theorem pinFalls_noHold (h : s.noHoldAsked) : (pinFalls s).noHoldAsked := by
  unfold pinFalls
  dsimp only
  split
  · exact h
  · exact beginStart_noHold _

theorem pinRises_noHold (h : s.noHoldAsked) : (pinRises s).noHoldAsked := by
  unfold pinRises
  dsimp only
  split
  · rfl
  · exact h

theorem startEnds_noHold (h : s.noHoldAsked) : (startEnds s).noHoldAsked := by
  unfold startEnds
  split <;> exact h

theorem replyEnds_noHold (h : s.noHoldAsked) : (replyEnds s).noHoldAsked := by
  have hsent : (applyRate (s.setLink { s.link with reply := none, clearMayFollow := false })).noHoldAsked := by
    unfold applyRate
    split <;> exact h
  unfold replyEnds
  split
  · split
    · exact beginStart_noHold _
    · dsimp only
      split
      · exact settle_noHold _
      · exact hsent
  · exact h

theorem writeEnds_noHold (h : s.noHoldAsked) : (writeEnds s).noHoldAsked := by
  unfold writeEnds
  split <;> exact h

theorem markEnds_noHold (h : s.noHoldAsked) : (markEnds s).noHoldAsked := by
  unfold markEnds
  split <;> exact h

theorem readbackEnds_noHold (found : SettingsImage) (h : s.noHoldAsked) : (readbackEnds found s).noHoldAsked := by
  unfold readbackEnds
  split
  · split <;> exact h
  · exact h

/-! ## The node line -/

theorem takeBroadcastOutcome_faults (sent : Bool) : (takeBroadcastOutcome sent s).faults = s.faults := by
  unfold takeBroadcastOutcome
  split
  · rfl
  · split
    · split <;> rfl
    all_goals rfl

theorem commandEnds_noHold (missed : List Nat) (h : s.noHoldAsked) : (commandEnds missed s).noHoldAsked := by
  refine StepRules.keeps_onPhase (fun t _ _ => ?_) h
  split
  · simpa [State.noHoldAsked, toPhase] using h
  · exact h

theorem broadcastEnds_noHold (missed : List Nat) (h : s.noHoldAsked) : (broadcastEnds missed s).noHoldAsked := by
  refine StepRules.keeps_onPhase (fun t _ _ => ?_) h
  dsimp only
  split
  · exact h
  · split
    · exact h
    · split
      · simpa [State.noHoldAsked, takeBroadcastOutcome_faults, toPhase] using h
      · simpa [State.noHoldAsked, toPhase] using h

theorem windowCloses_noHold (h : s.noHoldAsked) : (windowCloses s).noHoldAsked :=
  StepRules.keeps_onPhase (fun _ _ _ => settle_noHold _) h

theorem answerStarts_noHold (h : s.noHoldAsked) : (answerStarts s).noHoldAsked :=
  StepRules.keeps_onPhase (fun _ _ _ => h) h

theorem answerEnds_noHold (chars : List Byte) (h : s.noHoldAsked) : (answerEnds chars s).noHoldAsked := by
  refine StepRules.keeps_onPhase (fun t _ _ => ?_) h
  dsimp only
  split
  · exact settle_noHold _
  · split <;> exact settle_noHold _

theorem answerOverruns_noHold (h : s.noHoldAsked) : (answerOverruns s).noHoldAsked := by
  refine StepRules.keeps_onPhase (fun t _ _ => ?_) h
  split
  · exact h
  · exact settle_noHold _

theorem collide_noHold (h : s.noHoldAsked) : (collide s).noHoldAsked := by
  unfold collide
  split
  · unfold lineHeldLow
    split <;> exact h
  · split
    · dsimp only
      split
      · exact settle_noHold _
      · split <;> exact settle_noHold _
    · split
      · exact h
      · exact settle_noHold _
    · split
      · exact h
      · exact settle_noHold _
    · exact h
    · exact h

theorem spaceEnds_noHold (h : s.noHoldAsked) : (spaceEnds s).noHoldAsked := by
  unfold spaceEnds
  split
  · unfold lineLetGo
    split
    · exact settle_noHold _
    · exact h
  · split
    · exact settle_noHold _
    · exact h

theorem contestEnds_noHold (lead : BitVec 2) (slots : BitVec 168) (h : s.noHoldAsked) :
    (contestEnds lead slots s).noHoldAsked := StepRules.keeps_onPhase (fun _ _ _ => settle_noHold _) h

theorem keepDue_noHold (h : s.noHoldAsked) : (keepDue s).noHoldAsked := by
  unfold keepDue
  split
  · split
    · exact h
    · split <;> exact h
  · exact h

theorem haltDue_noHold (h : s.noHoldAsked) : (haltDue s).noHoldAsked := by
  unfold haltDue
  split
  · split
    · exact h
    · split <;> exact h
  · exact h

theorem lineSticks_noHold (h : s.noHoldAsked) : (lineSticks s).noHoldAsked := by
  unfold lineSticks
  split
  · exact h
  · exact settle_noHold _

theorem stuckEnds_noHold (h : s.noHoldAsked) : (stuckEnds s).noHoldAsked := by
  unfold stuckEnds
  split
  · dsimp only
    split
    · split
      · exact settle_noHold _
      · exact h
    · exact settle_noHold _
  · exact h

/-! ## Time -/

theorem deadlineExpires_noHold (k : FaultKind) (h : s.noHoldAsked) : (deadlineExpires k s).noHoldAsked := by
  unfold deadlineExpires
  split
  · exact settle_noHold _
  · exact h

theorem cycleExpires_noHold (h : s.noHoldAsked) : (cycleExpires s).noHoldAsked := by
  unfold cycleExpires
  split
  · exact settle_noHold _
  · exact h

theorem deadlines_noHold : ∀ (ks : List FaultKind) {s : State}, s.noHoldAsked →
    (ks.foldl (fun u k => deadlineExpires k u) s).noHoldAsked
  | [], _, h => h
  | k :: ks, _, h => deadlines_noHold ks (deadlineExpires_noHold k h)

theorem settleDue_noHold (h : s.noHoldAsked) : (settleDue s).noHoldAsked := by
  unfold settleDue
  exact cycleExpires_noHold (deadlines_noHold faultKinds h)

theorem elapse_noHold : ∀ (n : Nat) {s : State}, s.noHoldAsked → (elapse n s).noHoldAsked
  | 0, _, h => h
  | n + 1, s, h => by
    have hpassed : ((settleDue s).passTime 1).noHoldAsked := by
      rw [State.noHoldAsked, passTime_faults]
      exact settleDue_noHold h
    exact elapse_noHold n hpassed

theorem tick_noHold (h : s.noHoldAsked) : (tick s).noHoldAsked := by
  unfold tick
  split
  · exact h
  · exact h
  · exact startEnds_noHold h
  · exact h
  · unfold tickRunning
    split
    · exact deadlineExpires_noHold _ h
    · split
      · exact cycleExpires_noHold h
      · exact h

/-! ## The commands and the step -/

/-- No command leaves a hold asked for. -/
theorem exec_noHold (c : Instr) (h : s.noHoldAsked) : ∃ t, exec c s = .next t ∧ t.noHoldAsked := by
  have hrequest := takeRequest_noHold c h
  have hlive : ∀ f : State → State, (s.noHoldAsked → (f s).noHoldAsked) → (whenLive f s).noHoldAsked :=
    fun f hf => StepRules.keeps_whenLive (P := State.noHoldAsked) hf h
  cases c with
  | powerOn => exact ⟨_, rfl, beginStart_noHold _⟩
  | resetPinLow => exact ⟨_, rfl, pinFalls_noHold h⟩
  | resetPinHigh => exact ⟨_, rfl, pinRises_noHold h⟩
  | requestedRestart =>
    refine ⟨_, rfl, ?_⟩
    split
    · exact beginStart_noHold _
    · exact h
  | powerLoss => exact ⟨_, rfl, rfl⟩
  | startDelayEnd => exact ⟨_, rfl, startEnds_noHold h⟩
  | requestFrame chars => exact ⟨_, rfl, hlive (arrive chars) (arrive_noHold chars)⟩
  | frameDiscardedByLen len => exact ⟨_, rfl, hlive (arrive [len]) (arrive_noHold [len])⟩
  | overrunFrame chars => exact ⟨_, rfl, hlive (arrive chars) (arrive_noHold chars)⟩
  | timeoutError chars =>
    exact ⟨_, rfl, hlive (fun u => gapPasses (arrive chars u)) fun h => gapPasses_noHold (arrive_noHold chars h)⟩
  | framingError char =>
    exact ⟨_, rfl, hlive (fun u => breakChar char.levels (arriveWithin char.within u))
      fun h => breakChar_noHold _ (arriveWithin_noHold _ h)⟩
  | replyEnd => exact ⟨_, rfl, hlive replyEnds replyEnds_noHold⟩
  | writePhaseEnd => exact ⟨_, rfl, hlive writeEnds writeEnds_noHold⟩
  | markPhaseEnd => exact ⟨_, rfl, hlive markEnds markEnds_noHold⟩
  | readbackEnd found => exact ⟨_, rfl, hlive (readbackEnds found) (readbackEnds_noHold found)⟩
  | alertDeadlineExpiry kind =>
    exact ⟨_, rfl, hlive _ fun h => deadlineExpires_noHold kind (elapse_noHold _ h)⟩
  | cycleTimerExpiry => exact ⟨_, rfl, hlive _ fun h => cycleExpires_noHold (elapse_noHold _ h)⟩
  | commandSent missed => exact ⟨_, rfl, hlive _ (commandEnds_noHold missed)⟩
  | broadcastFrameEnd missed => exact ⟨_, rfl, hlive _ (broadcastEnds_noHold missed)⟩
  | answerStart => exact ⟨_, rfl, hlive _ answerStarts_noHold⟩
  | answerWindowExpiry => exact ⟨_, rfl, hlive _ windowCloses_noHold⟩
  | answerReceived chars => exact ⟨_, rfl, hlive _ (answerEnds_noHold chars)⟩
  | twentyFirstCharacter => exact ⟨_, rfl, hlive _ answerOverruns_noHold⟩
  | collision => exact ⟨_, rfl, hlive _ collide_noHold⟩
  | spaceEnd => exact ⟨_, rfl, hlive _ spaceEnds_noHold⟩
  | contestEnd lead slots => exact ⟨_, rfl, hlive _ (contestEnds_noHold lead slots)⟩
  | keep => exact ⟨_, rfl, hlive _ keepDue_noHold⟩
  | haltRepeat => exact ⟨_, rfl, hlive _ haltDue_noHold⟩
  | lineStuck => exact ⟨_, rfl, hlive _ lineSticks_noHold⟩
  | stuckEpisodeEnd => exact ⟨_, rfl, hlive _ stuckEnds_noHold⟩
  | nodeIdleDrop node => exact ⟨_, rfl, h⟩
  | nodeRestart node identity descriptor first payloads condition => exact ⟨_, rfl, h⟩
  | _ => exact ⟨_, rfl, hrequest⟩

theorem step_noHold (h : s.noHoldAsked) {t : State} (hstep : step s = .next t) : t.noHoldAsked := by
  unfold step at hstep
  split at hstep
  · cases hstep
    exact tick_noHold h
  · rename_i c rest _
    obtain ⟨u, hu, hn⟩ := exec_noHold (s := { s with pending := rest }) c h
    cases hu.symm.trans hstep
    exact hn

end Sys2Proof.Machine

namespace Sys2Proof.Proofs

open Sys2Proof Sys2Proof.Machine

/-- Settles O59: every elementary change keeps the timers and the survey with the line state and the gates shut in HELD, and
every event that raises a fault ends by settling, which takes the hold. -/
theorem lineTimersAndGatesFollowTheLineState : Obligations.LineTimersAndGatesFollowTheLineState :=
  ⟨fun _ _ ⟨hline, hhold⟩ hstep =>
    ⟨line_rules.step_keeps (fun _ _ h => h) trivial trivial False.elim hline hstep, step_noHold hhold hstep⟩,
    fun _ _ h hstep => gates_rules.step_keeps (fun _ _ h => h) trivial trivial False.elim h hstep⟩

/-- Settles O60: the values of the state after reset, law by law. -/
theorem resetIsLawful : Obligations.ResetIsLawful := by
  have hfree : ∀ i : Slot, State.reset.entry i = Entry.blank := fun i => by simp [State.entry, State.reset]
  have hnoRing : ∀ i : Slot, State.reset.ring i = none := fun i => by simp [State.ring, State.reset]
  have hnotDue : ∀ i : Slot, State.reset.isDue i = false := fun i => by simp [State.isDue, State.reset]
  refine ⟨gatesShut_notHeld (by simp [State.reset]), fun k => ?_, ⟨by decide, by decide⟩, dueLawful_none hnotDue,
    ⟨by decide, fun i => missLawful_zero (by decide) (by simp [hfree, Entry.blank])⟩,
    fun i => by simpa [hfree] using entryLawful_blank, ringsLawful_none hnoRing,
    identitiesLawful_free fun i => by simp [hfree, Entry.blank], fun i j x hi => by simp [State.reset] at hi,
    owedListLawful_nil, rfl,
    lineLawful_noSurvey (by simp [State.reset]) (by simp [State.reset]) (by simp [State.reset]) (by simp [State.reset])
      (by simp [State.reset, SurveyRecord.blank]) rfl rfl,
    workLawful_idle fun x hx => by simp [State.reset] at hx, rfl⟩
  simpa [State.record, State.reset] using recordLawful_blank

end Sys2Proof.Proofs
end
section
/-! PROOFS. Steps: the command at the front, the tick, and that every command completes. -/

namespace Sys2Proof.Machine

variable {s : State}

/-! ## The queue -/

/-- No command touches the commands behind it. -/
theorem queue_rules (q : List Instr) : StepRules False True True (fun s => s.pending = q) where
  frameEnds s t p _ _ _ h := by simpa [toPhase, State.setTxn] using h
  stops s _ h := by simpa [enterOff, stopPolling] using h
  stopsSurvey s _ h := by simpa [enterOff, stopPolling] using h
  resets s h := by simpa using h
  holds s _ h := by simpa using h
  surveyBegins s _ h := by simpa using h
  surveyEnds s r _ _ _ h := by simpa using h

/-! ## A commanded expiry that is due -/

theorem deadlineLeft_expired {k : FaultKind} (h : s.expired k = true) : deadlineLeft k s = 0 := by
  unfold State.expired at h
  split at h
  · rename_i d hpending hdeadline
    simp only [deadlineLeft, hpending, hdeadline, if_pos h]
  · cases h

/-- A deadline that is reached expires at once, also when it is commanded. -/
theorem exec_alertDeadlineExpiry {k : FaultKind} (hp : s.start.phase = .running) (h : s.expired k = true) :
    exec (.alertDeadlineExpiry k) s = .next (deadlineExpires k s) := by
  have hreach : reachDeadline k s = s := by rw [reachDeadline, deadlineLeft_expired h, elapse]
  show Host.Outcome.next (whenLive _ s) = _
  rw [whenLive, if_pos (live_of_running hp), hreach]

theorem cycleLeft_due (h : cycleDue s = true) : cycleLeft s = 0 := by
  unfold cycleDue at h
  unfold cycleLeft
  split at h
  · simp only [Bool.and_eq_true, decide_eq_true_eq] at h
    obtain ⟨hzero, hl⟩ := h
    simp [hl, hzero]
  · cases h

/-- A cycle that has run out ends at once, also when it is commanded. -/
theorem exec_cycleTimerExpiry (hp : s.start.phase = .running) (h : cycleDue s = true) :
    exec .cycleTimerExpiry s = .next (cycleExpires s) := by
  have hreach : cycleRunsOut s = s := by rw [cycleRunsOut, cycleLeft_due h, elapse]
  show Host.Outcome.next (whenLive _ s) = _
  rw [whenLive, if_pos (live_of_running hp), hreach]

/-! ## The tick -/

theorem step_of_empty (h : s.pending = []) : step s = .next (tick s) := by simp [step, h]

theorem tick_of_running (h : s.start.phase = .running) : tick s = tickRunning s := by simp [tick, h]

/-- R157, R179: one millisecond. -/
theorem passTime_one (s : State) : s.passTime 1 =
    { s with
      start := { s.start with clock := s.start.clock + 1 }
      link := { s.link with rx := { s.link.rx with highDue := s.link.rx.highDue - s.link.rate / 1000 } }
      sched := { s.sched with cycle := s.sched.cycle.map fun c => { c with remaining := c.remaining - 1 } } } := by
  rw [State.passTime, LinkState.idles, Nat.one_mul]
  rfl

end Sys2Proof.Machine

namespace Sys2Proof.Proofs

open Sys2Proof Sys2Proof.Machine

/-- Settles O1: by the definition of a step. -/
theorem stepTakesTheFrontCommand : Obligations.StepTakesTheFrontCommand := fun _ _ _ => rfl

/-- Settles O2, by the phase of the start, and in a running part by what is due. -/
theorem emptyQueueTicks : Obligations.EmptyQueueTicks := by
  intro s hq
  rw [step_of_empty hq]
  refine ⟨fun hp => ?_, fun hp => ?_, fun n hp => ?_, fun k hp hk => ?_, fun hp hk hc => ?_, fun hp hk hc => ?_⟩
  · rcases hp with hp | hp <;> simp [tick, hp]
  · simp [tick, startEnds, hp, State.setStart]
  · simp [tick, hp, State.setStart]
  · rw [tick_of_running hp, tickRunning, hk, exec_alertDeadlineExpiry hp (List.find?_some hk)]
  · rw [tick_of_running hp, tickRunning, hk, exec_cycleTimerExpiry hp hc]
    simp [hc]
  · rw [tick_of_running hp, tickRunning, hk]
    simp only [hc, Bool.false_eq_true, if_false]
    rw [passTime_one]

/-- Settles O3: every elementary change leaves the queue as it is. -/
theorem everyCommandCompletes : Obligations.EveryCommandCompletes := fun c s =>
  (queue_rules s.pending).exec_keeps c (fun _ => trivial) (fun _ => trivial) False.elim rfl

/-- Settles O9: the four requests that a start does not hold back. -/
theorem statusAndCausesAreReported : Obligations.StatusAndCausesAreReported := by
  refine ⟨fun s h => ⟨congrArg Host.Outcome.next (request_early _ _ h), ?_⟩, fun s h =>
    ⟨congrArg Host.Outcome.next (request_early _ _ h), congrArg Host.Outcome.next (request_early _ _ h),
      congrArg Host.Outcome.next (request_early _ _ h)⟩⟩
  simp [statusBytes, bigEndian]

end Sys2Proof.Proofs
end
section
/-! PROOFS. Starts: what every block takes at one, what the load of the settings gives, and the cut of a settings write; and
the requests of the host link unit and the settings store. -/

namespace Sys2Proof.Machine

variable {s : State}

/-! ## A request that its owner decides -/

/-- The owner accepts: the instruction is its effect, and the reply OK with its results. -/
theorem exec_accepted {c : Instr} {code : Byte} {owner : State → State × Status × List Byte} {t : State}
    {results : List Byte} (hs : s.ready) (ho : owner s = accept t results)
    (hx : exec c s = .next (request code false owner s) := by rfl) :
    exec c s = .next (t.replied code .ok results) := by
  rw [hx, request_accepted hs ho]

/-- The owner refuses: the instruction is its reply. -/
theorem exec_refused {c : Instr} {code : Byte} {owner : State → State × Status × List Byte} {status : Status}
    (hs : s.ready) (ho : owner s = refuse s status)
    (hx : exec c s = .next (request code false owner s) := by rfl) :
    exec c s = .next (s.replied code status []) := by
  rw [hx, request_refused hs ho]

/-- An event of a running part. -/
theorem whenLive_running (f : State → State) (h : s.start.phase = .running) : whenLive f s = f s := by
  rw [whenLive, if_pos (live_of_running h)]

/-! ## The full reset (R176) -/

theorem fullReset_resetBlocks (s : State) : FullReset (resetBlocks s) :=
  ⟨rfl, rfl, rfl, rfl, rfl, rfl, ⟨rfl, rfl, rfl⟩, rfl, rfl, rfl, rfl, rfl, rfl, rfl, rfl, rfl, ⟨rfl, rfl, rfl⟩,
    ⟨rfl, rfl, rfl⟩, rfl, rfl⟩

theorem fullReset_loadSettings (s : State) : FullReset (loadSettings (resetBlocks s)) :=
  ⟨rfl, rfl, rfl, rfl, rfl, rfl, ⟨rfl, rfl, rfl⟩, rfl, rfl, rfl, rfl, rfl, rfl, rfl, rfl, rfl, ⟨rfl, rfl, rfl⟩,
    ⟨rfl, rfl, rfl⟩, rfl, rfl⟩

theorem fullReset_setStart {t : State} (h : FullReset t) (x : StartState) : FullReset (t.setStart x) := by
  obtain ⟨h1, h2, h3, h4, h5, h6, h7, h8, h9, h10, h11, h12, h13, h14, h15, h16, h17, h18, h19⟩ := h
  exact ⟨h1, h2, h3, h4, h5, h6, h7, h8, h9, h10, h11, h12, h13, h14, h15, h16, h17, h18, h19⟩

theorem fullReset_beginDelay (s : State) : FullReset (beginDelay s) := fullReset_setStart (fullReset_loadSettings s) _

theorem fullReset_holdStart (s : State) : FullReset (holdStart s) := fullReset_setStart (fullReset_resetBlocks s) _

@[simp] theorem beginDelay_start (s : State) : (beginDelay s).start =
    { phase := .delay 50, pinLow := s.start.pinLow, causes := s.start.causes, clock := 0 } := rfl

@[simp] theorem beginDelay_nodes (s : State) : (beginDelay s).nodes = s.nodes := rfl

@[simp] theorem beginDelay_image (s : State) : (beginDelay s).settings.image = s.settings.image := rfl

@[simp] theorem holdStart_start (s : State) : (holdStart s).start =
    { phase := .held, pinLow := s.start.pinLow, causes := s.start.causes, clock := 0 } := rfl

@[simp] theorem holdStart_nodes (s : State) : (holdStart s).nodes = s.nodes := rfl

@[simp] theorem holdStart_image (s : State) : (holdStart s).settings.image = s.settings.image := rfl

/-! ## The cut of a settings write (R174) -/

@[simp] theorem cutWrite_start (s : State) : (cutWrite s).start = s.start := by unfold cutWrite; split <;> rfl

@[simp] theorem cutWrite_nodes (s : State) : (cutWrite s).nodes = s.nodes := by unfold cutWrite; split <;> rfl

theorem cutWrite_of_not_mark (h : ∀ snap, s.settings.store ≠ .writing .mark snap) : cutWrite s = s := by
  unfold cutWrite
  split
  · rename_i snap hs
    exact absurd hs (h snap)
  · rfl

theorem cutWrite_image_setStart (x : StartState) :
    (cutWrite (s.setStart x)).settings.image = (cutWrite s).settings.image := by
  unfold cutWrite
  rw [setStart_settings]
  split <;> rfl

theorem cutWrite_of_mark {snap : SettingsImage} (h : s.settings.store = .writing .mark snap) :
    (cutWrite s).settings.image = { s.settings.image with patternValid := Config.markWrittenValid s.freeIndex } := by
  simp [cutWrite, h]

/-! ## The beginning of a start -/

theorem beginStart_low (causes : BitVec 3) (h : s.start.pinLow = true) :
    beginStart causes s = holdStart ((cutWrite s).setStart { s.start with causes := causes }) := by
  simp [beginStart, h]

theorem beginStart_high (causes : BitVec 3) (h : s.start.pinLow = false) :
    beginStart causes s = beginDelay ((cutWrite s).setStart { s.start with causes := causes }) := by
  simp [beginStart, h]

theorem fullReset_beginStart (causes : BitVec 3) (s : State) : FullReset (beginStart causes s) := by
  cases h : s.start.pinLow
  · rw [beginStart_high causes h]
    exact fullReset_beginDelay _
  · rw [beginStart_low causes h]
    exact fullReset_holdStart _

@[simp] theorem beginStart_nodes (causes : BitVec 3) (s : State) : (beginStart causes s).nodes = s.nodes := by
  cases h : s.start.pinLow
  · simp [beginStart_high causes h]
  · simp [beginStart_low causes h]

@[simp] theorem beginStart_image (causes : BitVec 3) (s : State) :
    (beginStart causes s).settings.image = (cutWrite s).settings.image := by
  cases h : s.start.pinLow
  · simp [beginStart_high causes h]
  · simp [beginStart_low causes h]

theorem beginStart_start_high (causes : BitVec 3) (h : s.start.pinLow = false) : (beginStart causes s).start =
    { phase := .delay 50, pinLow := false, causes := causes, clock := 0 } := by
  simp [beginStart_high causes h, h]

theorem beginStart_start_low (causes : BitVec 3) (h : s.start.pinLow = true) : (beginStart causes s).start =
    { phase := .held, pinLow := true, causes := causes, clock := 0 } := by
  simp [beginStart_low causes h, h]

theorem powerCauses_high (h : s.start.pinLow = false) : powerCauses s = 0b001 := by simp [powerCauses, h, causePower]

theorem powerCauses_cases (s : State) : powerCauses s = 0b001 ∨ powerCauses s = 0b011 := by
  unfold powerCauses
  split
  · exact .inr rfl
  · exact .inl rfl

theorem pinFalls_supplied (h : s.start.phase ≠ .off) :
    pinFalls s = beginStart (s.start.causes ||| causePin) (s.setStart { s.start with pinLow := true }) := by
  simp [pinFalls, h]

theorem exec_requestedRestart (hp : s.start.phase = .running) (hd : s.link.restartDue = true)
    (hr : s.link.reply.isSome = true) : exec .requestedRestart s = .next (restartNow s) := by
  show Host.Outcome.next (if s.live ∧ s.link.restartDue ∧ s.link.reply.isSome then restartNow s else s) = _
  rw [if_pos ⟨live_of_running hp, hd, hr⟩]

theorem exec_replyEnd (hp : s.start.phase = .running) : exec .replyEnd s = .next (replyEnds s) := by
  show Host.Outcome.next (if s.live then replyEnds s else s) = _
  rw [if_pos (live_of_running hp)]

theorem replyEnds_restart (hd : s.link.restartDue = true) (hr : s.link.reply.isSome = true) :
    replyEnds s = restartNow s := by
  rw [replyEnds, if_pos hr, if_pos hd]

/-! ## The load of the settings (R171) -/

theorem reactionOf_reactionCode (r : Reaction) : reactionOf (reactionCode r) = some r := by cases r <;> rfl

/-- The reaction that a kind takes from a list of ten whole codes. -/
theorem reactionOf_getD {codes : List Byte} (hlen : codes.length = 10) (hall : ∀ c ∈ codes, (reactionOf c).isSome = true)
    (k : Fin 10) : reactionOf (codes.getD k.val 0x00) = some ((reactionOf (codes.getD k.val 0x00)).getD .ignore) := by
  have hmem : codes.getD k.val 0x00 ∈ codes := by
    rw [List.getD_eq_getElem?_getD, List.getElem?_eq_getElem (by omega), Option.getD_some]
    exact List.getElem_mem _
  obtain ⟨r, hr⟩ := Option.isSome_iff_exists.1 (hall _ hmem)
  rw [hr, Option.getD_some]

theorem find_slot {bs : List StoredBinding} {n : Nat} {b : StoredBinding}
    (h : (bs.find? fun b => decide (b.slot = n)) = some b) : b.slot = n := by simpa using List.find?_some h

/-- The binding that a slot takes from a list without a slot twice. -/
theorem find_binding {bs : List StoredBinding} (hnodup : (bs.map (·.slot)).Nodup) (n : Nat) (x : Identity) :
    (bs.find? fun b => decide (b.slot = n)).map (·.identity) = some x ↔ { slot := n, identity := x } ∈ bs := by
  constructor
  · intro h
    obtain ⟨b, hb, rfl⟩ := Option.map_eq_some_iff.1 h
    have hslot := find_slot hb
    subst hslot
    exact List.mem_of_find?_eq_some hb
  · intro h
    obtain ⟨b, hb⟩ := Option.isSome_iff_exists.1
      (List.find?_isSome.2 ⟨_, h, by simp⟩ : (bs.find? fun b => decide (b.slot = n)).isSome = true)
    have hslot := find_slot hb
    have hsame : b = { slot := n, identity := x } :=
      eq_of_nodup_map hnodup (List.mem_of_find?_eq_some hb) h hslot
    rw [hb, hsame]
    rfl

/-- A table that takes its cells from a list of its length is that list. -/
theorem tabulate_getD {n : Nat} {l : List Byte} (h : l.length = n) (d : Byte) :
    (tabulate n fun k => l.getD k.val d).toList = l := by
  refine List.ext_getElem (by simp [h]) fun i hi hi' => ?_
  simp [tabulate, Vector.toList, hi']

theorem settingsLoaded_loadValues {im : SettingsImage} (hv : valuesWhole im = true)
    (hslots : (im.bindings.map (·.slot)).Nodup) (s : State) : SettingsLoaded im (loadValues im s) := by
  simp only [valuesWhole, Bool.and_eq_true, decide_eq_true_eq, List.all_eq_true] at hv
  obtain ⟨⟨⟨⟨_, hlen⟩, hall⟩, _⟩, hlabel⟩ := hv
  refine ⟨rfl, rfl, ⟨rfl, rfl⟩, rfl, fun k => ?_, rfl, fun i x => ?_, tabulate_getD hlabel _⟩
  · rw [reactionOf_getD hlen hall]
    simp [State.reaction, loadValues]
  · simp only [loadValues, cell_tabulate]
    exact find_binding hslots _ _

/-- The image that the load takes its values from. -/
def loadedImage (im : SettingsImage) : SettingsImage := if imageWhole im then im else blankImage

theorem settingsLoaded_loadSettings (s : State) : SettingsLoaded (loadedImage s.settings.image) (loadSettings s) := by
  have hvalues : valuesWhole (loadedImage s.settings.image) = true ∧
      ((loadedImage s.settings.image).bindings.map (·.slot)).Nodup := by
    unfold loadedImage
    split
    · rename_i hw
      simp only [imageWhole, bindingsWhole, Bool.and_eq_true, decide_eq_true_eq] at hw
      obtain ⟨⟨_, hv⟩, ⟨_, hn⟩, _⟩ := hw
      exact ⟨hv, hn⟩
    · exact ⟨by decide +kernel, by decide⟩
  obtain ⟨h1, h2, h3, h4, h5, h6, h7, h8⟩ := settingsLoaded_loadValues hvalues.1 hvalues.2 s
  exact ⟨h1, h2, h3, h4, h5, h6, h7, h8⟩

theorem loadSettings_defaulted (s : State) : (loadSettings s).settings.defaulted = !imageWhole s.settings.image := rfl

/-- R176: what the start delay has loaded. -/
theorem settingsLoaded_beginDelay (s : State) : SettingsLoaded (loadedImage s.settings.image) (beginDelay s) := by
  obtain ⟨h1, h2, h3, h4, h5, h6, h7, h8⟩ := settingsLoaded_loadSettings (resetBlocks s)
  exact ⟨h1, h2, h3, h4, h5, h6, h7, h8⟩

theorem beginDelay_defaulted (s : State) : (beginDelay s).settings.defaulted = !imageWhole s.settings.image := rfl

/-! ## The snapshot (R172) -/

theorem snapshot_lawful (s : State) : SettingsLoaded (snapshot s) s := by
  refine ⟨rfl, rfl, ⟨rfl, rfl⟩, rfl, fun k => ?_, ?_, fun i x => ?_, rfl⟩
  · have hget : (snapshot s).reactions.getD k.index.val 0x00 = reactionCode (s.reaction k) := by
      simp [snapshot, State.reaction, cell, List.getD_eq_getElem?_getD]
    rw [hget, reactionOf_reactionCode]
  · have hlt : s.link.enables.toNat % 256 = s.link.enables.toNat := Nat.mod_eq_of_lt (by omega)
    simp [snapshot, hlt]
  · rw [← mem_bindingList]
    simp only [snapshot, List.mem_map, StoredBinding.mk.injEq]
    constructor
    · exact fun h => ⟨(i, x), h, rfl, rfl⟩
    · rintro ⟨⟨j, y⟩, h, hj, rfl⟩
      have hji : j = i := Fin.ext (by simpa using hj)
      exact hji ▸ h

/-! ## The owners' decisions -/

theorem ownRestart_idle (h : s.settings.store = .idle) :
    ownRestart s = accept (s.setLink { s.link with restartDue := true }) [] := by simp [ownRestart, h]

theorem ownRestart_busy (h : s.settings.store ≠ .idle) : ownRestart s = refuse s .busy := by
  unfold ownRestart
  split
  · rename_i hs
    exact absurd hs h
  · rfl

theorem ownStoreSettings_busy (h : s.settings.store ≠ .idle) : ownStoreSettings s = refuse s .busy := by
  unfold ownStoreSettings
  split
  · rename_i hs
    exact absurd hs h
  · rfl

theorem ownStoreSettings_idle (h : s.settings.store = .idle) : ownStoreSettings s =
    accept
      (s.setSettings
        { s.settings with
          store := .writing .write (snapshot s)
          image := { s.settings.image with patternValid := false } }) [] := by simp [ownStoreSettings, h]

theorem ownSetLinkRate_unknown {rate : Byte} (h : linkRateOf rate = none) : ownSetLinkRate rate s = refuse s .badValue := by
  simp [ownSetLinkRate, h]

theorem ownSetLinkRate_same {rate : Byte} (h : linkRateOf rate = some s.link.rate) :
    ownSetLinkRate rate s = accept s [] := by simp [ownSetLinkRate, h]

theorem ownSetLinkRate_other {rate : Byte} {r : Nat} (h : linkRateOf rate = some r) (hr : r ≠ s.link.rate) :
    ownSetLinkRate rate s = accept (s.setLink { s.link with rateChange := some r }) [] := by
  simp [ownSetLinkRate, h, hr]

theorem ownSetAttention_fits (enables : BitVec 5) :
    ownSetAttention (enables.zeroExtend 8) s = accept (s.setLink { s.link with enables := enables }) [] := by
  have hlt : enables.toNat < 32 := enables.isLt
  have hnat : (enables.zeroExtend 8).toNat = enables.toNat := by simp; omega
  rw [ownSetAttention, hnat, if_pos hlt, BitVec.ofNat_toNat, BitVec.setWidth_eq]

theorem ownSetAttention_badValue {b : Byte} (h : 32 ≤ b.toNat) : ownSetAttention b s = refuse s .badValue := by
  rw [ownSetAttention, if_neg (Nat.not_lt.2 h)]

theorem ownSetLabel_vector (label : Vector Byte 16) :
    ownSetLabel label.toList s = accept (s.setSettings { s.settings with label := label }) [] := by
  have hlabel : (tabulate 16 fun k => label.toList.getD k.val 0x20) = label :=
    Vector.toList_inj.1 (tabulate_getD (by simp) _)
  rw [ownSetLabel, hlabel]

/-! ## The phases of the write (R173) -/

theorem writeEnds_write {snap : SettingsImage} (h : s.settings.store = .writing .write snap) : writeEnds s =
    s.setSettings { s.settings with store := .writing .mark snap, image := { snap with patternValid := false } } := by
  simp [writeEnds, h]

theorem markEnds_mark {snap : SettingsImage} (h : s.settings.store = .writing .mark snap) : markEnds s =
    s.setSettings
      { s.settings with
        store := .writing .readback snap
        image := { s.settings.image with patternValid := true } } := by
  simp [markEnds, h]

theorem readbackEnds_readback {snap found : SettingsImage} (h : s.settings.store = .writing .readback snap) :
    readbackEnds found s =
      if found = { snap with patternValid := true } then
        s.setSettings { s.settings with store := .idle, lastResult := .ok, defaulted := false, image := found }
      else
        s.setSettings
          { s.settings with store := .idle, lastResult := .failed, image := { found with patternValid := false } } := by
  simp only [readbackEnds, h]

end Sys2Proof.Machine

namespace Sys2Proof.Proofs

open Sys2Proof Sys2Proof.Machine

/-- Settles O10: each request by its owner's decision, and each phase of the write by its end. -/
theorem linkAndSettingsRequestsDecide : Obligations.LinkAndSettingsRequestsDecide := by
  refine ⟨fun s hs => ⟨fun h => exec_accepted hs (ownRestart_idle h), fun h => exec_refused hs (ownRestart_busy h),
      fun _ h => exec_refused hs (ownSetLinkRate_unknown h), fun _ h => exec_accepted hs (ownSetLinkRate_same h),
      fun _ _ h hr => exec_accepted hs (ownSetLinkRate_other h hr),
      fun _ => exec_accepted hs (ownSetAttention_fits _), fun _ h => exec_refused hs (ownSetAttention_badValue h)⟩,
    fun s hs => ⟨fun label => exec_accepted hs (ownSetLabel_vector label) ?label,
      fun h => exec_accepted hs (ownStoreSettings_idle h), fun h => exec_refused hs (ownStoreSettings_busy h)⟩,
    fun s => ⟨snapshot_lawful s, rfl⟩, fun s snap hp => ⟨fun h => ?write, fun h => ?mark, fun h => ?same, fun h found hf => ?other⟩⟩
  case label =>
    show Host.Outcome.next (requestIfFits (decide (label.toList.length = 16)) 0x07 _ s) = _
    rw [Vector.length_toList]
    rfl
  case write => exact congrArg Host.Outcome.next ((whenLive_running writeEnds hp).trans (writeEnds_write h))
  case mark => exact congrArg Host.Outcome.next ((whenLive_running markEnds hp).trans (markEnds_mark h))
  case same =>
    exact congrArg Host.Outcome.next
      ((whenLive_running (readbackEnds _) hp).trans ((readbackEnds_readback h).trans (if_pos rfl)))
  case other =>
    exact congrArg Host.Outcome.next
      ((whenLive_running (readbackEnds found) hp).trans ((readbackEnds_readback h).trans (if_neg hf)))

/-- Settles O11: every start is `beginStart`, `beginDelay` or `holdStart`, which give every block its full-reset value. -/
theorem startsBeginAndEnd : Obligations.StartsBeginAndEnd := by
  refine ⟨fun s => ⟨fun h => ?onHigh, fun h => ?onLow, fun h => ?lowOff, fun h => ?highNotHeld, fun h => ?low,
    fun h => ?high, fun hp hl hd hr => ?restart⟩,
    fun s => ⟨fun n h => ?delayEnd, ⟨powerDown s, rfl, ?_, cutWrite_nodes s, ?_⟩, fun c t hc ht => ?cut⟩⟩
  case onHigh =>
    exact ⟨_, rfl, fullReset_beginStart _ s, beginStart_nodes _ s,
      (beginStart_start_high _ h).trans (by rw [powerCauses_high h])⟩
  case onLow =>
    have hstart := beginStart_start_low (powerCauses s) h
    refine ⟨_, rfl, fullReset_beginStart _ s, beginStart_nodes _ s, ?_, ?_, ?_, ?_⟩
    · exact congrArg StartState.phase hstart
    · exact congrArg StartState.pinLow hstart
    · exact congrArg StartState.clock hstart
    · rw [show (powerUp s).start.causes = powerCauses s from congrArg StartState.causes hstart]
      exact powerCauses_cases s
  case lowOff =>
    show Host.Outcome.next (pinFalls s) = _
    simp [pinFalls, h, State.setStart]
  case highNotHeld =>
    show Host.Outcome.next (pinRises s) = _
    simp [pinRises, h, State.setStart]
  case low =>
    refine ⟨pinFalls s, rfl, ?_⟩
    rw [pinFalls_supplied h]
    exact ⟨fullReset_beginStart _ _, beginStart_nodes _ _, beginStart_start_low _ rfl⟩
  case high =>
    have hdelay : pinRises s = beginDelay (s.setStart { s.start with pinLow := false }) := by simp [pinRises, h]
    refine ⟨pinRises s, rfl, ?_⟩
    rw [hdelay]
    exact ⟨fullReset_beginDelay _, rfl, rfl⟩
  case restart =>
    exact ⟨_, exec_requestedRestart hp hd hr, fullReset_beginStart _ s, beginStart_nodes _ s,
      by rw [exec_replyEnd hp, replyEnds_restart hd hr], beginStart_start_high _ hl⟩
  case delayEnd =>
    show Host.Outcome.next (startEnds s) = _
    simp [startEnds, h, State.setStart]
  case cut =>
    have himage : t.settings.image = (cutWrite s).settings.image := by
      rcases hc with rfl | rfl | ⟨rfl, hp⟩
      · cases ht
        rfl
      · cases ht
        exact beginStart_image _ s
      · cases ht
        rw [pinFalls_supplied hp, beginStart_image, cutWrite_image_setStart]
    refine ⟨fun h => ?_, fun snap h => ⟨_, himage.trans (cutWrite_of_mark h)⟩⟩
    rw [himage, cutWrite_of_not_mark h]
  · exact fullReset_setStart (fullReset_resetBlocks _) _
  · simp [powerDown, resetBlocks, State.setStart]

/-- Settles O12: each of the three is a start delay that begins with the image as it stood. -/
theorem startsLoadTheSettings : Obligations.StartsLoadTheSettings := by
  intro c s t hstore hc ht
  have hcut : cutWrite s = s := cutWrite_of_not_mark fun snap => by
    rw [hstore]
    exact nofun
  obtain ⟨u, hu, himage⟩ : ∃ u, t = beginDelay u ∧ u.settings.image = s.settings.image := by
    rcases hc with ⟨rfl, hl⟩ | ⟨rfl, hp⟩ | ⟨hc, hp, hl, hd, hr⟩
    · cases ht
      exact ⟨_, beginStart_high _ hl, by rw [hcut]; rfl⟩
    · cases ht
      exact ⟨s.setStart { s.start with pinLow := false }, by simp [pinRises, hp], rfl⟩
    · have hstart : exec c s = .next (restartNow s) := by
        rcases hc with rfl | rfl
        · exact exec_requestedRestart hp hd hr
        · rw [exec_replyEnd hp, replyEnds_restart hd hr]
      cases hstart.symm.trans ht
      exact ⟨_, beginStart_high _ hl, by rw [hcut]; rfl⟩
  have hloaded := settingsLoaded_beginDelay u
  rw [hu]
  rw [himage] at hloaded
  refine ⟨rfl, himage, fun hw => ⟨?_, ?_⟩, fun hw => ⟨?_, ?_⟩⟩
  · rwa [loadedImage, if_pos hw] at hloaded
  · rw [beginDelay_defaulted, himage, hw]
    rfl
  · rwa [loadedImage, if_neg (by simp [hw])] at hloaded
  · rw [beginDelay_defaulted, himage, hw]
    rfl

end Sys2Proof.Proofs
end
section
/-! PROOFS. Request bodies: what a body decodes to, and what a frame that holds one does. -/

namespace Sys2Proof.Machine

variable {s : State}

/-! ## Bodies and requests (R180) -/

/-- A 16-bit field is read as it was written. -/
@[simp] theorem word16_bytes16 (w : BitVec 16) :
    word16 (BitVec.ofNat 8 (w.toNat / 256)) (BitVec.ofNat 8 w.toNat) = w := by
  apply BitVec.eq_of_toNat_eq
  have := w.isLt
  simp only [word16, BitVec.toNat_ofNat]
  omega

/-- The body of a well-formed request decodes to it. -/
theorem decodeBody_encodeBody {i : Instr} {body : List Byte} (hw : i.wellFormed = true)
    (hb : encodeBody i = some body) : decodeBody body = .ok i := by
  have hword := word16_bytes16
  cases i <;> simp only [encodeBody, Option.some.injEq, reduceCtorEq] at hb <;> subst hb
  case setLabel label =>
    have hlen : label.length = 16 := of_decide_eq_true hw
    show (match paramsSetLabel label with | none => _ | some i => _) = _
    rw [paramsSetLabel, if_pos hlen]
  case nodeWrite tag slot item values =>
    have hlen : 1 ≤ values.length ∧ values.length ≤ 8 := by simpa [Instr.wellFormed] using hw
    show (match paramsNodeWrite (tag :: slot :: item :: values) with | none => _ | some i => _) = _
    rw [paramsNodeWrite, if_pos hlen]
  case setPoll period missLimit => exact congrArg (fun w => Except.ok (Instr.setPoll w missLimit)) (hword period)
  case setRing slot policy watermark =>
    exact congrArg (fun w => Except.ok (Instr.setRing slot policy w)) (hword watermark)
  case setAckWindow window => exact congrArg (fun w => Except.ok (Instr.setAckWindow w)) (hword window)
  case assignRing slot base size policy watermark =>
    show Except.ok (Instr.assignRing slot (word16 _ _) (word16 _ _) policy (word16 _ _)) = _
    rw [hword, hword, hword]
  all_goals rfl

/-- R159: a request's body fits a frame. -/
theorem encodeBody_length {i : Instr} {body : List Byte} (hw : i.wellFormed = true) (hb : encodeBody i = some body) :
    1 ≤ body.length ∧ body.length ≤ 240 := by
  cases i <;> simp only [encodeBody, Option.some.injEq, reduceCtorEq] at hb <;> subst hb
  case setLabel label =>
    have hlen : label.length = 16 := of_decide_eq_true hw
    simp [hlen]
  case nodeWrite tag slot item values =>
    have hlen : 1 ≤ values.length ∧ values.length ≤ 8 := by simpa [Instr.wellFormed] using hw
    simp only [List.length_cons]
    omega
  all_goals simp [bytes16]

/-- An instruction with a body is the request that dispatch hands on (R164). -/
theorem exec_of_encodeBody {i : Instr} {body : List Byte} (hb : encodeBody i = some body) :
    exec i s = .next (takeRequest i s) := by
  cases i <;> simp only [encodeBody, Option.some.injEq, reduceCtorEq] at hb <;> rfl

/-- A request is one call of its owner, whatever its code and whether a start holds it back. -/
theorem takeRequest_of_encodeBody {i : Instr} {body : List Byte} (hb : encodeBody i = some body) :
    ∃ code early owner, ∀ s, takeRequest i s = request code early owner s := by
  cases i <;> simp only [encodeBody, Option.some.injEq, reduceCtorEq] at hb
  case setLabel label =>
    cases hfit : decide (label.length = 16)
    · exact ⟨_, _, _, fun s => by rw [takeRequest, takeSetLabel, hfit]; rfl⟩
    · exact ⟨_, _, _, fun s => by rw [takeRequest, takeSetLabel, hfit]; rfl⟩
  case nodeWrite tag slot item values =>
    cases hfit : decide (1 ≤ values.length) && decide (values.length ≤ 8)
    · exact ⟨_, _, _, fun s => by rw [takeRequest, takeNodeWrite, hfit]; rfl⟩
    · exact ⟨_, _, _, fun s => by rw [takeRequest, takeNodeWrite, hfit]; rfl⟩
  all_goals exact ⟨_, _, _, fun _ => rfl⟩

/-- R164: every request but four is one that a start holds back, under the code that begins its body. -/
theorem takeRequest_heldBack {i : Instr} {code : Byte} {params : List Byte} (hw : i.wellFormed = true)
    (hb : encodeBody i = some (code :: params)) (hstatus : i ≠ .status) (hidentify : i ≠ .identify)
    (hread : i ≠ .readCauses) (hclear : i ≠ .clearCauses) :
    ∃ owner, ∀ s, takeRequest i s = request code false owner s := by
  cases i <;> simp only [encodeBody, Option.some.injEq, reduceCtorEq] at hb
  case status => exact absurd rfl hstatus
  case identify => exact absurd rfl hidentify
  case readCauses => exact absurd rfl hread
  case clearCauses => exact absurd rfl hclear
  case setLabel label =>
    obtain ⟨rfl, _⟩ := List.cons.inj hb
    exact ⟨_, fun s => by rw [takeRequest, takeSetLabel, show decide (label.length = 16) = true from hw]; rfl⟩
  case nodeWrite tag slot item values =>
    obtain ⟨rfl, _⟩ := List.cons.inj hb
    exact ⟨_, fun s => by
      rw [takeRequest, takeNodeWrite, show (decide (1 ≤ values.length) && decide (values.length ≤ 8)) = true from hw]
      rfl⟩
  all_goals
    obtain ⟨rfl, _⟩ := List.cons.inj hb
    exact ⟨_, fun _ => rfl⟩

/-! ## Whole frames (R159, R161) -/

theorem frameTail_eq (body : List Byte) : ∃ high low, frameTail body = BitVec.ofNat 8 body.length :: body ++ [high, low] ∧
    crc16 (BitVec.ofNat 8 body.length :: body) = word16 high low :=
  ⟨_, _, rfl, (word16_bytes16 _).symm⟩

/-- R161: a frame that spells a request is taken as that request. -/
theorem exec_requestFrame_request {body : List Byte} {i : Instr} (hlo : 1 ≤ body.length) (hhi : body.length ≤ 240)
    (hs : s.listens) (hh : s.hunts) (hbody : decodeBody body = .ok i) :
    exec (.requestFrame (frameTail body)) s = .next (takeRequest i s) := by
  obtain ⟨hrunning, hunowed⟩ := hs
  obtain ⟨high, low, htail, hcrc⟩ := frameTail_eq body
  simp only [htail, exec_requestFrame_running _ hrunning, arrive_whole body high low hlo hhi hh hunowed, judgeFrame,
    if_pos hcrc, hbody]

/-- R161, R164: a frame with a good check whose body is no request is answered by a status. -/
theorem exec_requestFrame_unreadable {body : List Byte} {status : Status} (hlo : 1 ≤ body.length)
    (hhi : body.length ≤ 240) (hs : s.listens) (hh : s.hunts) (hbody : decodeBody body = .error status) :
    exec (.requestFrame (frameTail body)) s = .next (answerFrame (body.headD 0x00) status s) := by
  obtain ⟨hrunning, hunowed⟩ := hs
  obtain ⟨high, low, htail, hcrc⟩ := frameTail_eq body
  simp only [htail, exec_requestFrame_running _ hrunning, arrive_whole body high low hlo hhi hh hunowed, judgeFrame,
    if_pos hcrc, hbody]

/-- R164: what is no request is answered by its code: out of the table, or in it with a LEN that does not fit. -/
theorem decodeBody_error {code : Byte} {params : List Byte} {status : Status}
    (h : decodeBody (code :: params) = .error status) :
    status = if code ∈ requestRows.map (fun row => row.1) then .badLength else .unknownRequest := by
  rw [decodeBody] at h
  split at h
  · rename_i hnone
    cases h
    rw [if_neg]
    rintro hmem
    obtain ⟨row, hrow, rfl⟩ := List.mem_map.1 hmem
    exact List.find?_eq_none.1 hnone row hrow (by simp)
  · rename_i row hrow
    have hcode : row.1 = code := by simpa using List.find?_some hrow
    rw [if_pos (List.mem_map.2 ⟨row, List.mem_of_find?_eq_some hrow, hcode⟩)]
    split at h
    · cases h
      rfl
    · cases h

end Sys2Proof.Machine

namespace Sys2Proof.Proofs

open Sys2Proof Sys2Proof.Machine

/-- Settles O4: each body is read by the row of its code. -/
theorem requestBodiesDecode : Obligations.RequestBodiesDecode := fun _ _ => decodeBody_encodeBody

/-- Settles O5: the receiver hands the whole frame on, and dispatch finds the request that its body spells. -/
theorem goodFrameIsItsRequest : Obligations.GoodFrameIsItsRequest := by
  intro i body s hw hb hs hh
  obtain ⟨hlo, hhi⟩ := encodeBody_length hw hb
  rw [exec_requestFrame_request hlo hhi hs hh (decodeBody_encodeBody hw hb), exec_of_encodeBody hb]

/-- Settles O7: a body that is no request, a start that holds requests back, and a request out of its time. -/
theorem unreadableAndUntimelyRequests : Obligations.UnreadableAndUntimelyRequests := by
  refine ⟨?unreadable, ?starting, ?untimely⟩
  case unreadable =>
    intro code params status s hlen hs hh herror
    rw [exec_requestFrame_unreadable (body := code :: params) (by simp) (Nat.succ_le_succ hlen) hs hh herror]
    exact ⟨congrArg Host.Outcome.next (answerFrame_unowed hs.2), decodeBody_error herror⟩
  case starting =>
    intro i code params s hw hb hs hc hstatus hidentify hread hclear
    obtain ⟨owner, howner⟩ := takeRequest_heldBack hw hb hstatus hidentify hread hclear
    rw [exec_of_encodeBody hb, howner, request_starting code owner hs hc]
  case untimely =>
    intro i body s hb
    obtain ⟨code, early, owner, howner⟩ := takeRequest_of_encodeBody hb
    rw [exec_of_encodeBody hb, howner]
    exact ⟨fun hp hr => by rw [request_owed code early owner hp hr],
      fun hp => by rw [request_stopped code early owner hp]⟩

end Sys2Proof.Proofs
end
section
/-! PROOFS. The receiver of the host link: the low levels of RXD, the levels of a character, frames that are discarded, and
the end of a reply. -/

namespace Sys2Proof.Machine

variable {s : State}

/-! ## Low levels on RXD (R157) -/

theorem lowRun_le (levels : List PinLevel) : lowRun levels ≤ levels.length := (List.takeWhile_sublist _).length_le

/-- Low levels before one that is not low. -/
theorem lowRun_lows (n : Nat) {rest : List PinLevel} (h : rest.head? ≠ some .low) :
    lowRun (List.replicate n .low ++ rest) = n := by
  induction n with
  | zero =>
    cases rest with
    | nil => rfl
    | cons l rest =>
      have hl : ¬ l = .low := fun e => h (by simp [e])
      simp [lowRun, hl]
  | succ n ih =>
    have hstep : lowRun (.low :: (List.replicate n .low ++ rest)) = lowRun (List.replicate n .low ++ rest) + 1 := by
      simp [lowRun]
    rw [List.replicate_succ, List.cons_append, hstep, ih]

/-- Levels are a low run and then levels that do not begin low. -/
theorem exists_lowRun (levels : List PinLevel) :
    ∃ n rest, levels = List.replicate n .low ++ rest ∧ rest.head? ≠ some .low := by
  refine ⟨lowRun levels, levels.dropWhile fun l => decide (l = .low), ?_, ?_⟩
  · have hlows : levels.takeWhile (fun l => decide (l = .low)) = List.replicate (lowRun levels) .low :=
      List.eq_replicate_iff.2 ⟨rfl, fun l hl => by simpa using List.all_eq_true.1 List.all_takeWhile l hl⟩
    rw [← hlows, List.takeWhile_append_dropWhile]
  · intro h
    have := List.head?_dropWhile_not (fun l => decide (l = .low)) levels
    rw [h] at this
    simp at this

theorem longLows_rest {rest : List PinLevel} (h : rest.head? ≠ some .low) (k : Nat) :
    longLows k rest = longLows 0 rest := by
  cases rest with
  | nil => rfl
  | cons l rest =>
    cases l with
    | low => exact absurd rfl h
    | high => rfl

/-- R157: a low run counts once, when it lasts longer than one character. -/
theorem longLows_lows (n : Nat) {rest : List PinLevel} (h : rest.head? ≠ some .low) : ∀ k : Nat,
    longLows k (List.replicate n .low ++ rest) = (if k ≤ 10 ∧ 10 < k + n then 1 else 0) + longLows 0 rest := by
  induction n with
  | zero =>
    intro k
    rw [List.replicate_zero, List.nil_append, longLows_rest h, if_neg (by omega), Nat.zero_add]
  | succ n ih =>
    intro k
    rw [List.replicate_succ, List.cons_append, longLows, ih (k + 1)]
    split <;> split <;> split <;> omega

/-- R157: no low level among so few is longer than one character. -/
theorem longLows_short : ∀ (levels : List PinLevel) (k : Nat), k + levels.length ≤ 10 → longLows k levels = 0
  | [], _, _ => rfl
  | .high :: rest, k, h => longLows_short rest 0 (by simp at h; omega)
  | .low :: rest, k, h => by
    simp only [List.length_cons] at h
    rw [longLows, if_neg (by omega), longLows_short rest (k + 1) (by omega)]

theorem waitOver_lows (n : Nat) (rest : List PinLevel) :
    waitOver 10 (List.replicate n .low ++ rest) = waitOver 10 rest := by
  induction n with
  | zero => rfl
  | succ n ih =>
    rw [List.replicate_succ, List.cons_append]
    exact ih

theorem waitOver_highs (n : Nat) : ∀ d, waitOver d (List.replicate n .high) = d - n := by
  induction n with
  | zero => exact fun d => rfl
  | succ n ih =>
    intro d
    rw [List.replicate_succ]
    show waitOver (d - 1) (List.replicate n .high) = _
    rw [ih (d - 1)]
    omega

theorem head_highs (n : Nat) : (List.replicate n PinLevel.high).head? ≠ some .low := by
  cases n <;> simp [List.replicate_succ]

/-! ## The low level in which a broken stop bit lies -/

theorem longLow_append {front back : List PinLevel} (h : front.length = 10) :
    longLow (front ++ back) = decide (10 < lowRun front.reverse + lowRun back) := by
  rw [longLow, ← h, List.take_left, List.drop_left]

theorem highDueAfter_append {front back : List PinLevel} (h : front.length = 10) :
    highDueAfter (front ++ back) = if 10 < lowRun front.reverse + lowRun back then waitOver 10 back else 0 := by
  have hdrop : (front ++ back).drop 10 = back := by rw [← h, List.drop_left]
  rw [highDueAfter, longLow_append h, hdrop]
  simp only [decide_eq_true_eq]

/-- No low level goes on past the tenth bit time. -/
theorem highDueAfter_ended {levels : List PinLevel} (h : lowRun (levels.drop 10) = 0) : highDueAfter levels = 0 := by
  have hfirst : lowRun (levels.take 10).reverse ≤ 10 :=
    Nat.le_trans (lowRun_le _) (by rw [List.length_reverse, List.length_take]; exact Nat.min_le_left ..)
  have hshort : longLow levels = false := by
    rw [longLow, h]
    exact decide_eq_false (by omega)
  rw [highDueAfter, hshort]
  rfl

theorem highDueAfter_low_high (low high : Nat) :
    highDueAfter (List.replicate low .low ++ List.replicate high .high) = if 10 < low then 10 - high else 0 := by
  by_cases h : 10 ≤ low
  · obtain ⟨n, rfl⟩ := Nat.exists_eq_add_of_le h
    rw [← List.replicate_append_replicate, List.append_assoc, highDueAfter_append (by simp), waitOver_lows, waitOver_highs,
      lowRun_lows n (head_highs high), List.reverse_replicate]
    have hten : lowRun (List.replicate 10 PinLevel.low) = 10 := rfl
    rw [hten]
  · rw [if_neg (by omega)]
    apply highDueAfter_ended
    rw [List.drop_append, List.drop_replicate, List.drop_replicate, show low - 10 = 0 by omega]
    exact lowRun_lows 0 (head_highs _)

theorem highDueAfter_front {front : List PinLevel} {before : Nat} (h : front.length + 1 + before = 10) (after high : Nat) :
    highDueAfter (front ++ .high :: List.replicate (before + after) .low ++ List.replicate high .high) =
      if 10 < before + after then 10 - high else 0 := by
  have hsplit : front ++ .high :: List.replicate (before + after) .low ++ List.replicate high .high =
      (front ++ .high :: List.replicate before .low) ++ (List.replicate after .low ++ List.replicate high .high) := by
    simp only [← List.replicate_append_replicate, List.append_assoc, List.cons_append]
  have hback : (front ++ PinLevel.high :: List.replicate before .low).reverse =
      List.replicate before .low ++ .high :: front.reverse := by simp
  rw [hsplit, highDueAfter_append (by simp; omega), hback, lowRun_lows before (by simp),
    lowRun_lows after (head_highs high), waitOver_lows, waitOver_highs]

/-! ## The wait (R157) -/

theorem afterHigh_highs : ∀ (levels : List PinLevel) (d : Nat), (levels.all fun l => decide (l = .high)) = true →
    ((afterHigh d levels).all fun l => decide (l = .high)) = true
  | levels, 0, h => by simpa [afterHigh] using h
  | [], d + 1, _ => rfl
  | .high :: rest, d + 1, h => afterHigh_highs rest d (by simpa using h)
  | .low :: rest, d + 1, h => by simp at h

theorem afterHigh_lows (n : Nat) (rest : List PinLevel) :
    afterHigh 10 (List.replicate n .low ++ rest) = afterHigh 10 rest := by
  induction n with
  | zero => rfl
  | succ n ih =>
    rw [List.replicate_succ, List.cons_append]
    exact ih

/-- A low level that comes before the wait can end begins it afresh. -/
theorem afterHigh_low (rest : List PinLevel) : ∀ (front : List PinLevel) (d : Nat), front.length < d → front.length < 10 →
    afterHigh d (front ++ .low :: rest) = afterHigh 10 rest
  | [], d + 1, _, _ => rfl
  | .high :: front, d + 1, h, h' => afterHigh_low rest front d (by simp at h; omega) (by simp at h'; omega)
  | .low :: front, d + 1, _, h' =>
    afterHigh_low rest front 10 (by simp at h'; omega) (by simp at h'; omega)

/-- The levels of a broken character: a low start bit, eight more bits, and a low stop bit. -/
theorem brokenLevels_split {levels : List PinLevel} (h : brokenLevels levels = true) :
    ∃ front rest, levels = .low :: front ++ .low :: rest ∧ front.length = 8 ∧
      ((levelsAfterBreak levels).all fun l => decide (l = .high)) = true := by
  simp only [brokenLevels, Bool.and_eq_true, decide_eq_true_eq] at h
  obtain ⟨⟨hhead, hstop⟩, hafter⟩ := h
  cases levels with
  | nil => cases hhead
  | cons l tail =>
    cases hhead
    obtain ⟨hlt, hget⟩ := List.getElem?_eq_some_iff.1 (show tail[8]? = some PinLevel.low from hstop)
    refine ⟨tail.take 8, tail.drop 9, ?_, by simp; omega, hafter⟩
    rw [List.cons_append, ← hget, List.getElem_cons_drop, List.take_append_drop]

/-- The low runs of a broken character: the one that its stop bit ends begins within it and goes on after it, and no low
level follows once the receiver may take a character again. -/
theorem brokenLevels_runs {levels : List PinLevel} (h : brokenLevels levels = true) :
    ∃ before n r after, levels = (before ++ List.replicate n PinLevel.low) ++ (List.replicate r PinLevel.low ++ after) ∧
      (before ++ List.replicate n PinLevel.low).length = 10 ∧ 1 ≤ n ∧ before.reverse.head? ≠ some .low ∧
      after.head? ≠ some .low ∧ ((afterHigh 10 after).all fun l => decide (l = .high)) = true ∧
      (n + r ≤ 10 → (after.all fun l => decide (l = .high)) = true) := by
  obtain ⟨front, rest, hlevels, hf, hafter⟩ := brokenLevels_split h
  obtain ⟨r, after, rfl, hhead⟩ := exists_lowRun rest
  obtain ⟨n, before, hback, hbefore⟩ := exists_lowRun (PinLevel.low :: front ++ [PinLevel.low]).reverse
  have hfirst : PinLevel.low :: front ++ [PinLevel.low] = before.reverse ++ List.replicate n .low := by
    have := congrArg List.reverse hback
    rwa [List.reverse_reverse, List.reverse_append, List.reverse_replicate] at this
  have hlen : (before.reverse ++ List.replicate n PinLevel.low).length = 10 := by
    rw [← hfirst]
    simp [hf]
  have hsplit : levels = (before.reverse ++ List.replicate n PinLevel.low) ++ (List.replicate r PinLevel.low ++ after) := by
    rw [← hfirst, hlevels]
    simp
  have hn : 1 ≤ n := by
    refine Classical.byContradiction fun hn => ?_
    obtain rfl : n = 0 := by omega
    rw [List.replicate_zero, List.nil_append] at hback
    exact hbefore (by rw [← hback]; simp)
  have hdrop : levels.drop 10 = List.replicate r PinLevel.low ++ after := by rw [hsplit, ← hlen, List.drop_left]
  have hlong : longLow levels = decide (10 < n + r) := by
    rw [hsplit, longLow_append hlen, List.reverse_append, List.reverse_replicate, List.reverse_reverse,
      lowRun_lows n hbefore, lowRun_lows r hhead]
  have hlate : levels.drop (10 + r) = after := by
    rw [← List.drop_drop, hdrop]
    exact List.drop_left' (by simp)
  unfold levelsAfterBreak at hafter
  rw [hlong, hdrop, lowRun_lows r hhead, hlate, afterHigh_lows] at hafter
  refine ⟨before.reverse, n, r, after, hsplit, hlen, hn, by rwa [List.reverse_reverse], hhead, ?_, fun hle => ?_⟩
  · split at hafter
    · exact hafter
    · exact afterHigh_highs after 10 hafter
  · rwa [if_neg (by simpa using hle)] at hafter

theorem brokenLevels_drop {before after : List PinLevel} {n r : Nat}
    (h : (before ++ List.replicate n PinLevel.low).length = 10) :
    ((before ++ List.replicate n PinLevel.low) ++ (List.replicate r PinLevel.low ++ after)).drop 10 = List.replicate r PinLevel.low ++ after := by
  rw [← h, List.drop_left]

theorem brokenLevels_longLow {before after : List PinLevel} {n r : Nat}
    (h : (before ++ List.replicate n PinLevel.low).length = 10) (hb : before.reverse.head? ≠ some .low)
    (ha : after.head? ≠ some .low) :
    longLow ((before ++ List.replicate n PinLevel.low) ++ (List.replicate r PinLevel.low ++ after)) = decide (10 < n + r) := by
  rw [longLow_append h, List.reverse_append, List.reverse_replicate, lowRun_lows n hb, lowRun_lows r ha]

theorem brokenLevels_later {before after : List PinLevel} {n r : Nat}
    (h : (before ++ List.replicate n PinLevel.low).length = 10) (ha : after.head? ≠ some .low) :
    laterLongLows ((before ++ List.replicate n PinLevel.low) ++ (List.replicate r PinLevel.low ++ after)) = longLows 0 after := by
  rw [laterLongLows, ← List.drop_drop, brokenLevels_drop h, lowRun_lows r ha, List.drop_left' (by simp)]

/-- The levels end as high as what follows a low level ends. -/
theorem highTail_append {front rest : List PinLevel} :
    ((front ++ .low :: rest).reverse.takeWhile fun l => decide (l = .high)) =
      rest.reverse.takeWhile fun l => decide (l = .high) := by
  rw [List.reverse_append, List.reverse_cons, List.append_assoc, List.takeWhile_append]
  split
  · rename_i hall
    rw [(List.takeWhile_prefix _).eq_of_length hall]
    simp
  · rfl

/-- R157: a broken character that passes while the receiver waits leaves it the high levels that it ends with. -/
theorem waitOver_broken {levels : List PinLevel} (h : brokenLevels levels = true) {d : Nat} (hd : 1 ≤ d) :
    waitOver d levels = 10 - (levels.reverse.takeWhile fun l => decide (l = .high)).length := by
  obtain ⟨front, rest, hlevels, hf, _⟩ := brokenLevels_split h
  obtain ⟨before, n, r, after, hruns, hlen, _, _, _, hafter, _⟩ := brokenLevels_runs h
  have hrest : rest = List.replicate r PinLevel.low ++ after := by
    have hdrop := brokenLevels_drop (r := r) (after := after) hlen
    rw [← hruns, hlevels, show PinLevel.low :: front ++ .low :: rest = (PinLevel.low :: front ++ [PinLevel.low]) ++ rest by simp,
      List.drop_left' (by simp [hf])] at hdrop
    exact hdrop
  have hwait : afterHigh d levels = afterHigh 10 after := by
    obtain ⟨m, rfl⟩ := Nat.exists_eq_add_of_le hd
    rw [hlevels, Nat.add_comm]
    show afterHigh 10 (front ++ .low :: rest) = _
    rw [afterHigh_low rest front 10 (by omega) (by omega), hrest, afterHigh_lows]
  rw [waitOver_eq _ _ (by rw [hwait]; exact hafter), if_neg (by simp [hlevels])]

/-- R157: what is left of the wait after a broken character. -/
theorem highDueAfter_broken {levels : List PinLevel} (h : brokenLevels levels = true) :
    highDueAfter levels =
      if longLow levels then 10 - (levels.reverse.takeWhile fun l => decide (l = .high)).length else 0 := by
  obtain ⟨before, n, r, after, hruns, hlen, hn, _, _, hafter, _⟩ := brokenLevels_runs h
  obtain ⟨m, rfl⟩ := Nat.exists_eq_add_of_le' hn
  have htail : (levels.reverse.takeWhile fun l => decide (l = .high)) =
      (List.replicate r PinLevel.low ++ after).reverse.takeWhile fun l => decide (l = .high) := by
    have hmoved : (before ++ List.replicate (m + 1) PinLevel.low) ++ (List.replicate r PinLevel.low ++ after) =
        (before ++ List.replicate m .low) ++ .low :: (List.replicate r PinLevel.low ++ after) := by
      simp only [List.replicate_succ', List.append_assoc, List.singleton_append]
    rw [hruns, hmoved, highTail_append]
  rw [htail, highDueAfter]
  congr 1
  rw [hruns, brokenLevels_drop hlen, waitOver_eq _ _ (by rw [afterHigh_lows]; exact hafter)]
  split
  · rename_i hall
    rw [takeWhile_all (by rw [List.all_reverse]; exact hall), List.length_reverse]
  · rfl

/-- R157: the first low level of a broken character counts where it is long, and each later one by itself. -/
theorem longLows_broken {levels : List PinLevel} (h : brokenLevels levels = true) :
    longLows 0 levels = (if longLow levels then 1 else 0) + laterLongLows levels ∧
      (longLow levels = false → laterLongLows levels = 0) := by
  obtain ⟨before, n, r, after, rfl, hlen, _, hbefore, hhead, _, hshort⟩ := brokenLevels_runs h
  have hwhole : longLows 0 (List.replicate (n + r) .low ++ after) =
      (if 10 < n + r then 1 else 0) + longLows 0 after := by
    rw [longLows_lows _ hhead]
    simp
  rw [brokenLevels_longLow hlen hbefore hhead, brokenLevels_later hlen hhead]
  refine ⟨?_, fun hlong => ?_⟩
  · rw [List.append_assoc, ← List.append_assoc (List.replicate n _), List.replicate_append_replicate]
    simp only [decide_eq_true_eq]
    rcases List.eq_nil_or_concat before with rfl | ⟨front, l, rfl⟩
    · exact hwhole
    · have hl : l = .high := by
        cases l with
        | low => simp at hbefore
        | high => rfl
      subst hl
      have hfront : front.length ≤ 10 := by simp at hlen; omega
      rw [List.concat_eq_append, List.append_assoc, List.singleton_append, longLows_append_high,
        longLows_short front 0 (by omega), Nat.zero_add, hwhole]
  · have hhighs : after = List.replicate after.length .high :=
      List.eq_replicate_iff.2 ⟨rfl, fun l hl => by
        simpa using List.all_eq_true.1 (hshort (by simpa using hlong)) l hl⟩
    rw [hhighs]
    clear hhighs
    induction after.length with
    | zero => rfl
    | succ n ih => exact ih

theorem longLows_low_high (low high : Nat) :
    longLows 0 (List.replicate low .low ++ List.replicate high .high) = if 10 < low then 1 else 0 := by
  have hhighs : longLows 0 (List.replicate high .high) = 0 := by
    induction high with
    | zero => rfl
    | succ n ih => exact ih
  rw [longLows_lows _ (head_highs high), hhighs]
  simp

/-! ## The levels of a character (R157) -/

theorem charBits_get (b : Byte) {k : Nat} (hk : k < 8) : (charBits b)[k + 1]? = some (b.getLsbD k) := by
  rw [charBits, List.cons_append, List.getElem?_cons_succ, List.getElem?_append_left (by simpa using hk)]
  simp [hk]

theorem charBits_length (b : Byte) : (charBits b).length = 10 := by simp [charBits]

theorem charBits_first (b : Byte) : (charBits b)[0]? = some false := by simp [charBits]

theorem charBits_last (b : Byte) : (charBits b)[9]? = some true := by simp [charBits]

theorem readBits_charBits (b : Byte) : readBits (charBits b) = some b := by
  revert b
  decide +kernel

/-- A last bit that reads 0 is no character. -/
theorem readBits_broken {bits : List Bool} (h : bits.getLast? = some false) : readBits bits = none := by
  rw [readBits, if_neg]
  rintro ⟨_, _, hlast⟩
  rw [h] at hlast
  cases hlast

theorem readLinkChar_linkCharLevels (b : Byte) : readLinkChar (linkCharLevels b) = some b := by
  have hbits : (linkCharLevels b).map (fun l => decide (l = .high)) = charBits b := by
    rw [linkCharLevels, List.map_map]
    exact List.map_id'' (fun x => by cases x <;> rfl) _
  rw [readLinkChar, hbits, readBits_charBits]

theorem linkCharLevels_length (b : Byte) : (linkCharLevels b).length = 10 := by
  rw [linkCharLevels, List.length_map, charBits_length]

section
variable {α : Type} {f : Byte → List α} (hf : ∀ b, (f b).length = 10)

include hf

/-- Characters back to back: ten bit times each. -/
theorem flatten_getD {chars : List Byte} {c : Nat} {b : Byte} {bit : Nat} (d : α) (hc : chars[c]? = some b)
    (hbit : bit < 10) : (chars.map f).flatten.getD (10 * c + bit) d = (f b).getD bit d := by
  induction chars generalizing c with
  | nil => cases hc
  | cons a rest ih =>
    rw [List.map_cons, List.flatten_cons]
    cases c with
    | zero =>
      cases hc
      rw [List.getD_eq_getElem?_getD, List.getElem?_append_left (by rw [hf]; omega)]
      simp
    | succ c =>
      rw [List.getD_eq_getElem?_getD, List.getElem?_append_right (by rw [hf]; omega), hf,
        show 10 * (c + 1) + bit - 10 = 10 * c + bit by omega]
      exact ih hc

theorem flatten_length (chars : List Byte) : (chars.map f).flatten.length = 10 * chars.length := by
  induction chars with
  | nil => rfl
  | cons a rest ih =>
    rw [List.map_cons, List.flatten_cons, List.length_append, hf, ih, List.length_cons]
    omega

end

theorem linkLevels_get {chars : List Byte} {c : Nat} {b : Byte} {bit : Nat} (hc : chars[c]? = some b) (hbit : bit < 10) :
    (linkLevels chars).getD (10 * c + bit) .high = (linkCharLevels b).getD bit .high :=
  flatten_getD linkCharLevels_length _ hc hbit

theorem linkLevels_length (chars : List Byte) : (linkLevels chars).length = 10 * chars.length :=
  flatten_length linkCharLevels_length chars

/-! ## Frames that are discarded (R159, R160, R162) -/

/-- The beginning of a frame leaves the receiver inside it, waiting for nothing. -/
theorem arrive_begun (chars : List Byte) (hw : partialFrame chars = true) (hs : s.hunts) :
    ∃ r : Receiver, r.phase ≠ .hunt ∧ r.highDue = 0 ∧
      arrive chars s = (if s.link.reply.isSome then s.overrunning else s).setRx r := by
  have hph : s.link.rx.phase = .hunt := by rw [show s.link.rx = Receiver.idle from hs]; rfl
  cases chars with
  | nil =>
    refine ⟨{ Receiver.idle with phase := .length, overrun := s.link.reply.isSome }, nofun, rfl, ?_⟩
    rw [arrive_hunts hs]
    simp only [List.foldl_cons, List.foldl_nil, takeByte, hph, takeHunt, if_true]
    split <;> rfl
  | cons len rest =>
    simp only [partialFrame, Bool.and_eq_true, decide_eq_true_eq] at hw
    obtain ⟨⟨hlo, hhi⟩, hlen⟩ := hw
    have hsplit : (0xD5 : Byte) :: len :: rest = [0xD5, len] ++ rest := rfl
    rw [arrive_hunts hs, hsplit, List.foldl_append, feed_head _ hlo hhi hph]
    rcases Nat.lt_trichotomy rest.length len.toNat with hlt | heq | hgt
    · exact ⟨rxBody _ _ rest, by simp [rxBody], rfl, feed_body_short _ _ _ rest [] (by simpa using hlt)⟩
    · exact ⟨rxCheck _ _ rest none, by simp [rxCheck], rfl, feed_body_whole _ _ _ rest heq hlo⟩
    · rcases List.eq_nil_or_concat rest with rfl | ⟨body, high, rfl⟩
      · simp at hgt
      · have hbody : body.length = len.toNat := by simp at hlen hgt; omega
        refine ⟨rxCheck len.toNat s.link.reply.isSome body (some high), by simp [rxCheck], rfl, ?_⟩
        rw [List.concat_eq_append, List.foldl_append, feed_body_whole _ _ _ body hbody hlo]
        rfl

/-- A LEN outside 1 to 240 discards the frame that it begins, with one framing error. -/
theorem arrive_badLen {len : Byte} (hl : len = 0 ∨ 241 ≤ len.toNat) (hs : s.hunts) :
    arrive [len] s =
      countErrors 1 (if s.link.reply.isSome then s.overrunning else s) := by
  have hph : s.link.rx.phase = .hunt := by rw [show s.link.rx = Receiver.idle from hs]; rfl
  have hout : ¬ (1 ≤ len.toNat ∧ len.toNat ≤ 240) := by
    rcases hl with rfl | hl
    · decide
    · omega
  have hsame : ∀ u : State, u.hunts → ∀ r, countFraming (u.setRx r) = countErrors 1 u := fun u hu r =>
    setRx_same (s := countErrors 1 u) hu
  rw [arrive_hunts hs]
  simp only [List.foldl_cons, List.foldl_nil]
  have hsync : takeByte s 0xD5 = (if s.link.reply.isSome then s.overrunning else s).setRx
      { Receiver.idle with phase := .length, overrun := s.link.reply.isSome } := by
    simp only [takeByte, hph, takeHunt, if_true]
    split <;> rfl
  rw [hsync]
  simp only [takeByte, setRx_rx, takeLength, if_neg hout]
  refine hsame _ ?_ _
  split
  · exact hs
  · exact hs

/-- R160: a gap inside a frame. -/
theorem gapPasses_within {r : Receiver} (h : r.phase ≠ .hunt) : gapPasses (s.setRx r) =
    s.setLink { s.link with timeout := satAdd s.link.timeout 1, rx := Receiver.idle } := by
  rw [gapPasses, setRx_rx, if_neg h]
  rfl

/-- R160: the beginning of a frame, and then a gap. -/
theorem gapPasses_begun (chars : List Byte) (hw : partialFrame chars = true) (hs : s.hunts) :
    gapPasses (arrive chars s) =
      (if s.link.reply.isSome then s.overrunning else s).setLink
        { (if s.link.reply.isSome then s.overrunning else s).link with timeout := satAdd s.link.timeout 1 } := by
  obtain ⟨r, hr, _, harrive⟩ := arrive_begun chars hw hs
  rw [harrive, gapPasses_within hr]
  have hidle : s.link.rx = Receiver.idle := hs
  split
  · rw [← hidle]
    rfl
  · rw [← hidle]

/-- R157: a broken character that no wait hides ends the frame that was being received, if one was. -/
theorem breakChar_ready {r : Receiver} (levels : List PinLevel) (h : r.highDue = 0) : breakChar levels (s.setRx r) =
    s.setLink
      { s.link with
        framing := satAdd s.link.framing (1 + laterLongLows levels)
        rx := { Receiver.idle with highDue := highDueAfter levels } } := by
  rw [breakChar, if_neg (by simp [h])]
  rfl

/-- R157: a broken character while the receiver waits. -/
theorem breakChar_waiting {levels : List PinLevel} (hb : brokenLevels levels = true) (h : 1 ≤ s.link.rx.highDue) :
    breakChar levels s =
      s.setLink
        { s.link with
          framing := satAdd s.link.framing (longLows 0 levels)
          rx := { s.link.rx with
            highDue := 10 - (levels.reverse.takeWhile fun l => decide (l = .high)).length } } := by
  rw [breakChar, if_pos (Nat.lt_of_lt_of_le Nat.zero_lt_one h), ← waitOver_broken hb h]
  rfl

/-! ## The frame events of a running part -/

theorem exec_overrunFrame_running (chars : List Byte) (h : s.start.phase = .running) :
    exec (.overrunFrame chars) s = .next (arrive chars s) := congrArg Host.Outcome.next (whenLive_running _ h)

theorem exec_frameDiscardedByLen_running (len : Byte) (h : s.start.phase = .running) :
    exec (.frameDiscardedByLen len) s = .next (arrive [len] s) := congrArg Host.Outcome.next (whenLive_running _ h)

theorem exec_timeoutError_running (chars : List Byte) (h : s.start.phase = .running) :
    exec (.timeoutError chars) s = .next (gapPasses (arrive chars s)) :=
  congrArg Host.Outcome.next (whenLive_running (fun u => gapPasses (arrive chars u)) h)

theorem exec_framingError_running (char : BrokenChar) (h : s.start.phase = .running) :
    exec (.framingError char) s = .next (breakChar char.levels (arriveWithin char.within s)) :=
  congrArg Host.Outcome.next (whenLive_running (fun u => breakChar char.levels (arriveWithin char.within u)) h)

/-! ## The end of a reply (R158, R162) -/

theorem replyEnds_plain (hr : s.link.reply.isSome = true) (hd : s.link.restartDue = false)
    (ho : s.surveyReplyOwed = false) :
    replyEnds s = applyRate (s.setLink { s.link with reply := none, clearMayFollow := false }) := by
  rw [replyEnds, if_pos hr, hd]
  simp only [Bool.false_eq_true, if_false, ho]

end Sys2Proof.Machine

namespace Sys2Proof.Proofs

open Sys2Proof Sys2Proof.Machine

/-- Settles O8: frames that follow while a reply is owed, frames that are discarded, the low levels of RXD, the levels of a
character, and the end of a reply. -/
theorem frameEventsAreTaken : Obligations.FrameEventsAreTaken := by
  refine ⟨?owed, ?unowed, highDueAfter_low_high, fun _ _ after high _ h => highDueAfter_front h after high,
    fun _ => highDueAfter_broken, longLows_low_high, fun front rest => longLows_append_high front rest 0,
    fun _ => longLows_broken, ?waiting, ?character, ?broken, ?txd, ?reply⟩
  case owed =>
    intro s hp hr hh
    refine ⟨fun chars hw => ?_, fun len hl => ?_, fun chars hw => ?_⟩
    · rw [exec_overrunFrame_running _ hp, arrive_whole_owed chars hw hh hr]
    · rw [exec_frameDiscardedByLen_running _ hp, arrive_badLen hl hh, if_pos hr]
      rfl
    · rw [exec_timeoutError_running _ hp, gapPasses_begun chars hw hh, if_pos hr]
      rfl
  case unowed =>
    intro s hs hh
    obtain ⟨hp, hr⟩ := hs
    refine ⟨fun char hw => ?_, fun len hl => ?_, fun chars hw => ?_⟩
    · rw [exec_framingError_running _ hp]
      cases hwithin : char.within with
      | none =>
        have hsame := breakChar_ready (s := s) (r := s.link.rx) char.levels (by rw [show s.link.rx = _ from hh]; rfl)
        rw [setRx_same rfl] at hsame
        exact congrArg Host.Outcome.next hsame
      | some chars =>
        obtain ⟨r, _, hdue, harrive⟩ := arrive_begun chars (hw chars hwithin) hh
        rw [arriveWithin, harrive, hr]
        exact congrArg Host.Outcome.next (breakChar_ready char.levels hdue)
    · rw [exec_frameDiscardedByLen_running _ hp, arrive_badLen hl hh, hr]
      rfl
    · rw [exec_timeoutError_running _ hp, gapPasses_begun chars hw hh, hr]
      rfl
  case waiting =>
    intro s hp hlo hhi
    have hwaits : ∀ chars, ∃ d, 1 ≤ d ∧ d ≤ 10 ∧ arrive chars s = s.setRx { s.link.rx with highDue := d } := by
      intro chars
      obtain ⟨h1, h10⟩ := waitOver_chars (0xD5 :: chars) s.link.rx.highDue hlo hhi
      exact ⟨_, h1, h10, arrive_waits hlo⟩
    refine ⟨fun chars => ?_, fun char hb => ?_, fun chars hph => ?_, fun n hn => Nat.sub_eq_zero_of_le hn⟩
    · obtain ⟨d, h1, h10, harrive⟩ := hwaits chars
      exact ⟨d, h1, h10, by rw [exec_requestFrame_running _ hp, harrive]⟩
    · rw [exec_framingError_running _ hp]
      cases hwithin : char.within with
      | none => exact congrArg Host.Outcome.next (breakChar_waiting hb hlo)
      | some chars =>
        obtain ⟨d, h1, _, harrive⟩ := hwaits chars
        rw [arriveWithin, harrive]
        exact congrArg Host.Outcome.next (breakChar_waiting hb h1)
    · obtain ⟨d, _, _, harrive⟩ := hwaits chars
      rw [exec_timeoutError_running _ hp, harrive]
      exact congrArg Host.Outcome.next (gapPasses_hunt hph)
  case character =>
    intro b
    refine ⟨linkCharLevels_length b, ?_, ?_, fun k hk => ?_, readLinkChar_linkCharLevels b⟩
    · rw [linkCharLevels, List.getElem?_map, charBits_first]
      rfl
    · rw [linkCharLevels, List.getElem?_map, charBits_last]
      rfl
    · rw [linkCharLevels, List.getElem?_map, charBits_get b hk]
      rfl
  case broken =>
    intro levels h
    exact readBits_broken (by rw [List.getLast?_map, h]; rfl)
  case txd =>
    intro s
    refine ⟨fun k h => by rw [State.txdLevel, h], fun body c b bit h hc hbit => ?_, fun body k h hk => ?_⟩
    · rw [State.txdLevel, h]
      exact linkLevels_get hc hbit
    · have hidle : (linkLevels (linkFrame body)).getD k .high = .high := by
        rw [List.getD_eq_getElem?_getD, List.getElem?_eq_none (by rw [linkLevels_length]; exact hk), Option.getD_none]
      rw [State.txdLevel, h]
      exact hidle
  case reply =>
    intro s hp hr hd ho
    rw [exec_replyEnd hp, replyEnds_plain hr hd ho]
    exact ⟨fun h => by simp [applyRate, h, State.setLink], fun rate h => by simp [applyRate, h, State.setLink]⟩

end Sys2Proof.Proofs
end
section
/-! PROOFS. The line requests: what settling leaves alone, what a survey that is told to stop becomes, and the requests of
the line engine and of the survey unit. -/

namespace Sys2Proof.Machine

variable {s : State}

/-! ## Settling with sends owed, or off (R128) -/

/-- At most the next frame of the owed list begins. -/
structure OwedBegun (s t : State) : Prop where
  start : t.start = s.start
  settings : t.settings = s.settings
  link : t.link = s.link
  dir : t.dir = s.dir
  survey : t.survey = s.survey
  sched : t.sched = s.sched
  store : t.store = s.store
  pool : t.pool = s.pool
  faults : t.faults = s.faults
  nodes : t.nodes = s.nodes
  state : t.line.state = s.line.state
  silence : t.line.silence = s.line.silence
  haltTimer : t.line.haltTimer = s.line.haltTimer
  last : t.line.owed.getLast?.map (fun o => o.command) = s.line.owed.getLast?.map (fun o => o.command)
  txn : ∀ x, s.line.txn = some x → t.line.txn = some x

theorem owedBegun_same (s : State) : OwedBegun s s :=
  ⟨rfl, rfl, rfl, rfl, rfl, rfl, rfl, rfl, rfl, rfl, rfl, rfl, rfl, rfl, fun _ => id⟩

theorem owedBegun_beginOwed {o : OwedSend} {rest : List OwedSend} (ho : s.line.owed = o :: rest)
    (hx : s.line.txn = none) : OwedBegun s (beginOwed o rest s) := by
  refine ⟨rfl, rfl, rfl, rfl, rfl, rfl, rfl, rfl, rfl, rfl, rfl, rfl, rfl, ?last, fun x h => ?txn⟩
  case last =>
    rw [ho]
    show ((_ :: rest : List OwedSend).getLast?).map _ = _
    cases rest <;> rfl
  case txn => rw [hx] at h; cases h

/-- R128: with sends owed nothing else begins, and an idle line engine in OFF begins nothing else. -/
theorem service_owedBegun (h : s.line.owed ≠ [] ∨ s.line.state = .off) : OwedBegun s (service s) := by
  unfold service
  split
  · rename_i hallows
    have hx : s.line.txn = none := by
      simp only [State.lineAllows, Bool.and_eq_true] at hallows
      simpa using hallows.1
    split
    · rename_i ho
      exact owedBegun_beginOwed ho hx
    · rename_i ho
      rw [beginWork, h.resolve_left (fun hne => hne ho)]
      exact owedBegun_same s
  · exact owedBegun_same s

theorem settle_owedBegun (hn : s.noHoldAsked) (h : s.line.owed ≠ [] ∨ s.line.state = .off) :
    OwedBegun s (settle s) := by
  rw [settle, takeHold_none hn]
  exact service_owedBegun h

/-! ## Settling outside a survey -/

/-- What the taking up of the next frame leaves alone while no survey runs. -/
structure Served (s t : State) : Prop where
  start : t.start = s.start
  settings : t.settings = s.settings
  link : t.link = s.link
  dir : t.dir = s.dir
  survey : t.survey = s.survey
  store : t.store = s.store
  faults : t.faults = s.faults
  nodes : t.nodes = s.nodes
  state : t.line.state = s.line.state
  silence : t.line.silence = s.line.silence
  haltTimer : t.line.haltTimer = s.line.haltTimer
  cycle : t.sched.cycle = s.sched.cycle
  lateCycles : t.sched.lateCycles = s.sched.lateCycles

theorem served_same (s : State) : Served s s := ⟨rfl, rfl, rfl, rfl, rfl, rfl, rfl, rfl, rfl, rfl, rfl, rfl, rfl⟩

theorem Served.trans {s t u : State} (h : Served s t) (h' : Served t u) : Served s u where
  start := h'.start.trans h.start
  settings := h'.settings.trans h.settings
  link := h'.link.trans h.link
  dir := h'.dir.trans h.dir
  survey := h'.survey.trans h.survey
  store := h'.store.trans h.store
  faults := h'.faults.trans h.faults
  nodes := h'.nodes.trans h.nodes
  state := h'.state.trans h.state
  silence := h'.silence.trans h.silence
  haltTimer := h'.haltTimer.trans h.haltTimer
  cycle := h'.cycle.trans h.cycle
  lateCycles := h'.lateCycles.trans h.lateCycles

theorem served_beginFrame (f : LineFrame) (u : LineUser) (s : State) : Served s (beginFrame f u s) :=
  ⟨rfl, rfl, rfl, rfl, rfl, rfl, rfl, rfl, rfl, rfl, rfl, rfl, rfl⟩

theorem served_grantPoll (i : Slot) (s : State) : Served s (grantPoll i s) :=
  ⟨rfl, rfl, rfl, rfl, rfl, rfl, rfl, rfl, rfl, rfl, rfl, rfl, rfl⟩

theorem served_beginPoolAttempt (r : PoolRequest) (s : State) : Served s (beginPoolAttempt r s) :=
  ⟨rfl, rfl, rfl, rfl, rfl, rfl, rfl, rfl, rfl, rfl, rfl, rfl, rfl⟩

theorem served_beginOwed (o : OwedSend) (rest : List OwedSend) (s : State) : Served s (beginOwed o rest s) :=
  ⟨rfl, rfl, rfl, rfl, rfl, rfl, rfl, rfl, rfl, rfl, rfl, rfl, rfl⟩

theorem completeRequest_nodeGone (r : PoolRequest) (s : State) : completeRequest r .nodeGone [] s =
    s.setPool { s.pool with inFlight := none, completed := s.pool.completed ++ [{ request := r, outcome := .nodeGone, data := [] }] } := by
  simp [completeRequest, completionClaim]

theorem completeRequest_nodeLost (r : PoolRequest) (s : State) : completeRequest r .nodeLost [] s =
    s.setPool { s.pool with inFlight := none, completed := s.pool.completed ++ [{ request := r, outcome := .nodeLost, data := [] }] } := by
  simp [completeRequest, completionClaim]

theorem served_startRequest (r : PoolRequest) (rest : List PoolRequest) (s : State) :
    Served s (startRequest r rest s) ∧ (startRequest r rest s).sched.due = s.sched.due := by
  unfold startRequest
  dsimp only
  split
  · rw [completeRequest_nodeGone]
    exact ⟨⟨rfl, rfl, rfl, rfl, rfl, rfl, rfl, rfl, rfl, rfl, rfl, rfl, rfl⟩, rfl⟩
  · rw [completeRequest_nodeLost]
    exact ⟨⟨rfl, rfl, rfl, rfl, rfl, rfl, rfl, rfl, rfl, rfl, rfl, rfl, rfl⟩, rfl⟩
  all_goals exact ⟨⟨rfl, rfl, rfl, rfl, rfl, rfl, rfl, rfl, rfl, rfl, rfl, rfl, rfl⟩, rfl⟩

theorem served_service (h : s.line.state ≠ .survey) : Served s (service s) :=
  service_keeps (P := Served s)
    (poll := fun i t _ ht => ht.trans (served_grantPoll i t))
    (start := fun r rest t _ ht => ht.trans (served_startRequest r rest t).1)
    (attempt := fun r t _ ht => ht.trans (served_beginPoolAttempt r t))
    (owed := fun o rest t _ ht => ht.trans (served_beginOwed o rest t))
    (repeated := fun f u t ht => ht.trans (served_beginFrame f u t))
    (survey := fun _ hs ht => absurd (ht.state.symm.trans hs) h)
    (served_same s)

/-- R77: a slot that was due is still due, or its poll has been granted. -/
def dueOrPolled (i : Slot) (t : State) : Prop :=
  t.isDue i = true ∨ ∃ x, t.line.txn = some x ∧ x.user = .poll ∧ x.frame.target = some i

theorem dueOrPolled_grantPoll {i j : Slot} (h : s.isDue i = true) : dueOrPolled i (grantPoll j s) := by
  by_cases hij : i = j
  · subst hij
    exact .inr ⟨_, rfl, rfl, rfl⟩
  · exact .inl ((isDue_setDue_ne s hij false).trans h)

theorem dueOrPolled_arbitrate {i : Slot} : ∀ (n : Nat) {s : State}, s.isDue i = true → dueOrPolled i (arbitrate n s)
  | 0, _, h => .inl h
  | n + 1, s, h => by
    unfold arbitrate
    split
    · exact dueOrPolled_grantPoll h
    · rename_i r rest _ _
      have hdue : (startRequest r rest s).isDue i = true := by
        rw [State.isDue, (served_startRequest r rest s).2]
        exact h
      dsimp only
      split
      · exact .inl hdue
      · exact dueOrPolled_arbitrate n hdue
    · exact .inl h

theorem dueOrPolled_service {i : Slot} (hl : s.line.state = .running) (h : s.isDue i = true) :
    dueOrPolled i (service s) := by
  unfold service
  split
  · split
    · exact .inl h
    · simp only [beginWork, hl]
      split
      · exact .inl h
      · split
        · exact .inl h
        · exact dueOrPolled_arbitrate _ h
  · exact .inl h

/-! ## A survey told to stop (R63, R64) -/

theorem latchSurveyDone_link : s.latchSurveyDone.link =
    { s.link with surveyDone := s.latchSurveyDone.link.surveyDone } := by
  unfold State.latchSurveyDone
  split <;> rfl

theorem latchSurveyDone_open (h : s.link.clearMayFollow = false) : s.latchSurveyDone.link.surveyDone = true := by
  simp [State.latchSurveyDone, h]

theorem surveyStops_link : (surveyStops s).link = { s.link with surveyDone := (surveyStops s).link.surveyDone } :=
  latchSurveyDone_link

theorem stopSurvey_link (s : State) :
    (stopSurvey s).link = { s.link with surveyDone := (stopSurvey s).link.surveyDone } := by
  rcases stopSurvey_cases s with h | h | h <;> rw [h]
  · rfl
  · exact surveyStops_link

/-- R64: the record of a survey that stops now, and its latch. -/
theorem surveyStopped_surveyStops (s : State) : surveyStopped s (surveyStops s) := by
  refine ⟨?survey, fun h => latchSurveyDone_open (s := s.setSurvey _) h⟩
  rw [surveyStops_survey]
  rcases s.survey.round with _ | r
  · simp [describePending]
  · by_cases hd : r.phase = .describe ∧ r.closing = none <;> simp [describePending, hd]

theorem surveyStopped_of {t u : State} (h : surveyStopped s u) (hv : t.survey = u.survey) (hl : t.link = u.link) :
    surveyStopped s t := by
  unfold surveyStopped
  rw [hv, hl]
  exact h

/-! ## What STOP_LINE, HOLD_LINE and RESET_LINE leave -/

/-- The line engine that a stop leaves. -/
def LineEngine.stopped (l : LineEngine) : LineEngine :=
  { l with
    state := .off
    txn := l.txn.map toldToEnd
    silence := false
    keepWaiting := false
    haltTimer := false
    haltWaiting := false }

/-- Polling as a stop leaves it: no slot is due and no cycle runs. -/
def Scheduler.stopped (c : Scheduler) : Scheduler := { c with due := allCells 32 false, cycle := none }

theorem isDue_of_stopped {c : Scheduler} {t : State} (h : t.sched = c.stopped) (i : Slot) : t.isDue i = false := by
  rw [State.isDue, h]
  exact cell_allCells false i

/-- A link unit in which nothing but the survey latch may have changed, once the reply is owed. -/
theorem replied_link_of_latch {l m : LinkState} {t : State} {code : Byte} (h : t.link = m)
    (hl : m = { l with surveyDone := m.surveyDone }) : (t.replied code .ok []).link =
      { l with reply := some [code ||| 0x80, 0x00], surveyDone := (t.replied code .ok []).link.surveyDone } := by
  simp only [State.replied, h, statusCode, if_true]
  rw [hl]

/-- What STOP_LINE leaves in RUNNING before settling. -/
def stoppedRunning (s : State) : State :=
  { s with line := s.line.stopped, sched := s.sched.stopped, pool := s.pool.flightAborted }

/-- What STOP_LINE leaves in SURVEY before settling. -/
def stoppedSurvey (s : State) : State :=
  addOwed .close
    { stopSurvey s with line := s.line.stopped, sched := s.sched.stopped, pool := s.pool.flightAborted }

theorem stoppedRunning_eq (s : State) : enterOff (stopPolling (abortTransaction s)) = stoppedRunning s := by
  rw [abortTransaction_eq]
  rfl

theorem stoppedSurvey_eq (s : State) :
    enterOff (addOwed .close (stopPolling (abortTransaction (stopSurvey s)))) = stoppedSurvey s := by
  have hsame : ∀ u : State, u.line = s.line → u.sched = s.sched → u.pool = s.pool →
      enterOff (addOwed .close (stopPolling (abortTransaction u))) =
        addOwed .close { u with line := s.line.stopped, sched := s.sched.stopped, pool := s.pool.flightAborted } := by
    intro u hl hs hp
    rw [abortTransaction_eq, ← hl, ← hs, ← hp]
    rfl
  exact hsame _ (by simp) (by simp) (by simp)

theorem ownStopLine_running (h : s.line.state = .running) : ownStopLine s = accept (settle (stoppedRunning s)) [] := by
  simp [ownStopLine, h, stoppedRunning_eq]

theorem ownStopLine_survey (h : s.line.state = .survey) : ownStopLine s = accept (settle (stoppedSurvey s)) [] := by
  simp [ownStopLine, h, stoppedSurvey_eq]

theorem ownStartLine_off (h : s.line.state = .off) (hp : s.alertPin = false) :
    ownStartLine s = accept (settle (enterRunning s)) [] := by simp [ownStartLine, h, hp]

theorem ownHoldLine_enters (h : s.line.state ≠ .held) : ownHoldLine s = accept (settle (holdEntry s)) [] := by
  unfold ownHoldLine
  split
  · rfl
  · rfl
  · rfl
  · exact absurd ‹_› h

/-! ## The line engine that a line reset leaves -/

theorem clearRounds_stopSurvey_running (h : s.line.state = .survey) (hf : s.surveyFrameRuns = true) :
    clearRounds (stopSurvey s) = s.setSurvey { s.survey with stopping := true } := by
  rw [stopSurvey_running h hf, clearRounds]
  exact if_pos rfl

theorem clearRounds_stopSurvey_now (h : s.line.state = .survey) (hf : s.surveyFrameRuns = false) :
    clearRounds (stopSurvey s) = surveyStops s := by
  have hv : (surveyStops s).survey.stopping = false := by rw [surveyStops_survey]
  have hsame : { (surveyStops s).survey with round := none, failures := 0 } = (surveyStops s).survey := by
    rw [surveyStops_survey]
  rw [stopSurvey_now h hf, clearRounds, hv, hsame]
  rfl

theorem clearRounds_link (s : State) : (clearRounds s).link = s.link := by
  unfold clearRounds
  split <;> rfl

/-- A survey told to stop: one with a frame of its own on the line is marked, one without stops at once. -/
def toldToStop (s t : State) : Prop :=
  (s.line.state = .survey → s.surveyFrameRuns = true →
    t.survey = { s.survey with stopping := true } ∧ t.link.surveyDone = s.link.surveyDone) ∧
  (s.line.state = .survey → s.surveyFrameRuns = false → surveyStopped s t)

theorem toldToStop_of {t : State} (hv : t.survey = (stopSurvey s).survey) (hl : t.link = (stopSurvey s).link) :
    toldToStop s t := by
  refine ⟨fun h hf => ?_, fun h hf => ?_⟩
  · rw [hv, hl, stopSurvey_running h hf]
    exact ⟨rfl, rfl⟩
  · rw [stopSurvey_now h hf] at hv hl
    exact surveyStopped_of (surveyStopped_surveyStops s) hv hl

theorem toldToStop_reset {t : State} (hv : t.survey = (clearRounds (stopSurvey s)).survey)
    (hl : t.link = (stopSurvey s).link) : toldToStop s t := by
  refine ⟨fun h hf => ?_, fun h hf => ?_⟩
  · rw [hv, hl, clearRounds_stopSurvey_running h hf, stopSurvey_running h hf]
    exact ⟨rfl, rfl⟩
  · rw [clearRounds_stopSurvey_now h hf] at hv
    rw [stopSurvey_now h hf] at hl
    exact surveyStopped_of (surveyStopped_surveyStops s) hv hl

/-! ## The requests that a line state refuses -/

theorem ownStartLine_alert (h : s.line.state = .off) (hp : s.alertPin = true) :
    ownStartLine s = refuse s .alertPending := by simp [ownStartLine, h, hp]

theorem ownStartLine_running (h : s.line.state = .running ∨ s.line.state = .survey) : ownStartLine s = accept s [] := by
  rcases h with h | h <;> simp [ownStartLine, h]

theorem ownStartLine_held (h : s.line.state = .held) : ownStartLine s = refuse s .lineHeld := by simp [ownStartLine, h]

theorem ownResumeLine_wrong (h : s.line.state ≠ .held) : ownResumeLine s = refuse s .wrongState := by
  unfold ownResumeLine
  split
  · rfl
  · rfl
  · rfl
  · exact absurd ‹_› h

theorem ownResumeLine_alert (h : s.line.state = .held) (hp : s.alertPin = true) :
    ownResumeLine s = refuse s .alertPending := by simp [ownResumeLine, h, hp]

theorem ownStopLine_off (h : s.line.state = .off) : ownStopLine s = accept s [] := by simp [ownStopLine, h]

theorem ownStopLine_held (h : s.line.state = .held) : ownStopLine s = refuse s .lineHeld := by simp [ownStopLine, h]

theorem ownHoldLine_held (h : s.line.state = .held) : ownHoldLine s = accept s [] := by simp [ownHoldLine, h]

end Sys2Proof.Machine

namespace Sys2Proof.Proofs

open Sys2Proof Sys2Proof.Machine

/-- Settles O13: the line runs from its cycle start on, and settling begins at most one frame. -/
theorem startAndResumeDecide : Obligations.StartAndResumeDecide := by
  intro s hs hn
  refine ⟨fun h hp => exec_refused hs (ownStartLine_alert h hp), fun h => exec_accepted hs (ownStartLine_running h),
    fun h => exec_refused hs (ownStartLine_held h), fun h hp => ?start,
    fun h => exec_refused hs (ownResumeLine_wrong h), fun h hp => exec_refused hs (ownResumeLine_alert h hp),
    fun h hp => ?resume⟩
  case start =>
    have hsettle : settle (enterRunning s) = service (enterRunning s) := by
      rw [settle, takeHold_none (s := enterRunning s) hn]
    have hserved : Served (enterRunning s) (settle (enterRunning s)) := hsettle ▸ served_service (by simp)
    refine ⟨_, exec_accepted hs (ownStartLine_off h hp), hserved.state, hserved.silence, hserved.haltTimer,
      hserved.cycle, hserved.lateCycles, fun i hi => ?due, ?link, hserved.start, hserved.settings, hserved.dir,
      hserved.survey, hserved.store, hserved.faults, hserved.nodes⟩
    case due =>
      have hdue : (enterRunning s).isDue i = true := isDue_cycleStart_of_active hi
      exact hsettle ▸ dueOrPolled_service rfl hdue
    case link => simp [State.replied, hserved.link, statusCode]
  case resume =>
    have hb : OwedBegun (enterRunning (addOwed .go s)) (settle (enterRunning (addOwed .go s))) :=
      settle_owedBegun hn (.inl (addOwed_owed_ne_nil .go s))
    refine ⟨_, exec_accepted hs (ownResumeLine_held h hp), hb.state, hb.silence, hb.haltTimer,
      hb.last.trans (addOwed_getLast s .go), congrArg (·.cycle) hb.sched, congrArg (·.lateCycles) hb.sched,
      fun i hi => ?due, ?link, hb.start, hb.settings, hb.dir, hb.survey, hb.store, hb.pool, hb.faults, hb.nodes⟩
    case due =>
      have hdue : (enterRunning (addOwed .go s)).isDue i = true := isDue_cycleStart_of_active hi
      rw [← hdue]
      exact congrArg (cell · i) (congrArg (·.due) hb.sched)
    case link => simp [State.replied, hb.link, statusCode]

/-- Settles O14: polling stops, the transaction and the request in flight are aborted, the survey is told to stop. -/
theorem stopLineDecides : Obligations.StopLineDecides := by
  intro s hs hn
  refine ⟨fun h => exec_accepted hs (ownStopLine_off h), fun h => exec_refused hs (ownStopLine_held h), ?stops⟩
  rintro (h | h)
  case stops.inl =>
    have hb : OwedBegun (stoppedRunning s) (settle (stoppedRunning s)) := settle_owedBegun hn (.inr rfl)
    have hno : s.line.state ≠ .survey := by simp [h]
    refine ⟨_, exec_accepted hs (ownStopLine_running h), hb.state, hb.silence, congrArg (·.cycle) hb.sched,
      fun i => ?due, fun x hx => hb.txn _ (congrArg (Option.map toldToEnd) hx), congrArg (·.queued) hb.pool,
      congrArg (·.inFlight) hb.pool, congrArg (·.completed) hb.pool, fun h' => absurd h' hno, fun h' => absurd h' hno,
      fun h' => absurd h' hno, fun _ => ⟨hb.survey, congrArg (·.surveyDone) hb.link⟩, ?link, hb.start, hb.settings,
      hb.dir, hb.store, hb.faults, hb.nodes⟩
    case due => exact isDue_of_stopped hb.sched i
    case link => exact replied_link_of_latch hb.link rfl
  case stops.inr =>
    have hb : OwedBegun (stoppedSurvey s) (settle (stoppedSurvey s)) :=
      settle_owedBegun ((congrArg (·.holdAsked) (stopSurvey_faults s)).trans hn) (.inr rfl)
    obtain ⟨hruns, hnow⟩ := toldToStop_of hb.survey hb.link
    refine ⟨_, exec_accepted hs (ownStopLine_survey h), hb.state, hb.silence, congrArg (·.cycle) hb.sched,
      fun i => isDue_of_stopped hb.sched i, fun x hx => hb.txn _ (congrArg (Option.map toldToEnd) hx),
      congrArg (·.queued) hb.pool, congrArg (·.inFlight) hb.pool, congrArg (·.completed) hb.pool, hruns, hnow,
      fun _ => hb.last.trans (addOwed_getLast _ .close), fun h' => absurd (h.symm.trans h') (by decide),
      replied_link_of_latch hb.link (stopSurvey_link s), hb.start.trans (stopSurvey_start s),
      hb.settings.trans (stopSurvey_settings s), hb.dir.trans (stopSurvey_dir s), hb.store.trans (stopSurvey_store s),
      hb.faults.trans (stopSurvey_faults s), hb.nodes.trans (stopSurvey_nodes s)⟩

/-- Settles O15: a hold entry, whose HALT is then owed. -/
theorem holdLineEntersHold : Obligations.HoldLineEntersHold := by
  intro s hs hn
  refine ⟨fun h => exec_accepted hs (ownHoldLine_held h), fun h => ?enters⟩
  obtain ⟨u, hu⟩ : ∃ u, u = holdEntry s := ⟨_, rfl⟩
  have heq := hu.trans (holdEntry_eq h)
  have howed : u.line.owed = owedWith .halt s.line.owed := congrArg (·.line.owed) heq
  have hb : OwedBegun u (settle u) :=
    settle_owedBegun (by rw [State.noHoldAsked, hu, holdEntry_faults]; exact hn) (.inl (by simp [howed, owedWith]))
  have hsurvey : (settle u).survey = (stopSurvey s).survey := hb.survey.trans (congrArg (·.survey) heq)
  have hlink : (settle u).link = (stopSurvey s).link := hb.link.trans (congrArg (·.link) heq)
  have hsched : (settle u).sched = s.sched.stopped := hb.sched.trans (congrArg (·.sched) heq)
  have hdir := hb.dir.trans (congrArg (·.dir) heq)
  have hpool : (settle u).pool = s.pool.allAborted := hb.pool.trans (congrArg (·.pool) heq)
  have htxn : u.line.txn = s.line.txn.map toldToEnd := congrArg (·.line.txn) heq
  obtain ⟨hruns, hnow⟩ := toldToStop_of hsurvey hlink
  refine ⟨_, exec_accepted hs (ownHoldLine_enters h), ?_⟩
  rw [← hu]
  refine ⟨hb.state.trans (congrArg (·.line.state) heq), hb.silence.trans (congrArg (·.line.silence) heq),
    congrArg (·.cycle) hsched, fun i => isDue_of_stopped hsched i, fun i => ?gate,
    fun x hx => hb.txn _ (htxn.trans (congrArg (Option.map toldToEnd) hx)), congrArg (·.queued) hpool,
    congrArg (·.inFlight) hpool, congrArg (·.completed) hpool, ?last, hruns, hnow, fun hne => ?noSurvey,
    replied_link_of_latch hlink (stopSurvey_link s), congrArg (·.bindings) hdir, congrArg (·.changes) hdir,
    hb.start.trans (hu ▸ holdEntry_start), hb.settings.trans (by simp [heq]), hb.store.trans (hu ▸ holdEntry_store),
    hb.faults.trans (hu ▸ holdEntry_faults), hb.nodes.trans (by simp [heq])⟩
  case gate => simp [State.entry, State.replied, hdir]
  case last => exact hb.last.trans (by simp [howed, owedWith])
  case noSurvey =>
    rw [stopSurvey_none hne] at hsurvey hlink
    exact ⟨hsurvey, congrArg (·.surveyDone) hlink⟩

/-- Settles O16: a line reset, whose UNSEAT_ALL is then owed. -/
theorem resetLineClearsTheLine : Obligations.ResetLineClearsTheLine := by
  intro s hs hn
  obtain ⟨u, hu⟩ : ∃ u, u = lineReset s := ⟨_, rfl⟩
  have heq := hu.trans (lineReset_eq s)
  have hb : OwedBegun u (settle u) :=
    settle_owedBegun (by rw [State.noHoldAsked, hu, lineReset_faults]; exact hn) (.inr (congrArg (·.line.state) heq))
  have howed : u.line.owed = owedWith .unseatAll s.line.owed := congrArg (·.line.owed) heq
  have hsurvey : (settle u).survey = (clearRounds (stopSurvey s)).survey := hb.survey.trans (congrArg (·.survey) heq)
  have hlink : (settle u).link = (stopSurvey s).link :=
    (hb.link.trans (congrArg (·.link) heq)).trans (clearRounds_link _)
  have hsched : (settle u).sched = s.sched.stopped := hb.sched.trans (congrArg (·.sched) heq)
  have hpool : (settle u).pool = s.pool.allAborted := hb.pool.trans (congrArg (·.pool) heq)
  have htxn : u.line.txn = s.line.txn.map toldToEnd := congrArg (·.line.txn) heq
  obtain ⟨hruns, hnow⟩ := toldToStop_reset hsurvey hlink
  refine ⟨_, exec_accepted hs rfl, ?_⟩
  rw [← hu]
  refine ⟨hb.state.trans (congrArg (·.line.state) heq), hb.silence.trans (congrArg (·.line.silence) heq),
    hb.haltTimer.trans (congrArg (·.line.haltTimer) heq), congrArg (·.cycle) hsched,
    fun i => isDue_of_stopped hsched i, fun x hx => hb.txn _ (htxn.trans (congrArg (Option.map toldToEnd) hx)),
    congrArg (·.queued) hpool, congrArg (·.inFlight) hpool, congrArg (·.completed) hpool, ?last, hruns, hnow,
    fun hne => ?noSurvey, replied_link_of_latch hlink (stopSurvey_link s), hb.start.trans (hu ▸ lineReset_start s),
    hb.settings.trans ?settings, hb.dir.trans (hu ▸ lineReset_dir s), hb.store.trans (hu ▸ lineReset_store s),
    hb.faults.trans (hu ▸ lineReset_faults s), hb.nodes.trans ?nodes⟩
  case last => exact hb.last.trans (by simp [howed, owedWith])
  case noSurvey =>
    rw [stopSurvey_none hne] at hsurvey hlink
    refine ⟨hsurvey.trans ?_, congrArg (·.surveyDone) hlink⟩
    unfold clearRounds
    split <;> rfl
  case settings => simp [heq, clearRounds_keeps]
  case nodes => simp [heq, clearRounds_keeps]

end Sys2Proof.Proofs
end
section
/-! PROOFS. The survey's beginning, the line rate, SURVEY_RESULT and SET_POLL, and the directory's requests. -/

namespace Sys2Proof.Machine

variable {s : State} {i : Slot}

/-! ## SET_LINE_RATE, SURVEY_RESULT, SET_POLL -/

theorem ownSetLineRate_badValue {rate : Byte} (h : rate.toNat ∉ [10, 20, 40]) :
    ownSetLineRate rate s = refuse s .badValue := by
  have h' : ¬ (rate.toNat = 10 ∨ rate.toNat = 20 ∨ rate.toNat = 40) := by simpa using h
  rw [ownSetLineRate, if_neg h']

theorem ownSetLineRate_known {rate : Byte} (h : rate.toNat ∈ [10, 20, 40]) : ownSetLineRate rate s =
    if s.line.state = .off then accept (s.setLine { s.line with rate := rate.toNat }) [] else refuse s .wrongState := by
  have h' : rate.toNat = 10 ∨ rate.toNat = 20 ∨ rate.toNat = 40 := by simpa using h
  rw [ownSetLineRate, if_pos h']

/-- The ranges that SET_POLL checks. -/
def pollFits (period : BitVec 16) (limit : Byte) : Prop :=
  10 ≤ period.toNat ∧ period.toNat ≤ 10000 ∧ 1 ≤ limit.toNat ∧ limit.toNat ≤ 15

theorem ownSetPoll_fits {period : BitVec 16} {limit : Byte} (h : pollFits period limit) : ownSetPoll period limit s =
    accept (zeroMisses { s with sched := { s.sched with period := period.toNat, missLimit := limit.toNat } }) [] :=
  if_pos h

theorem ownSetPoll_badValue {period : BitVec 16} {limit : Byte} (h : ¬ pollFits period limit) :
    ownSetPoll period limit s = refuse s .badValue := if_neg h

/-! ## SURVEY (R47, R48) -/

theorem ownSurvey_running (h : s.line.state = .running) : ownSurvey s = accept (startSurvey s) [] := by
  simp [ownSurvey, h]

theorem ownSurvey_survey (h : s.line.state = .survey) : ownSurvey s = refuse s .busy := by simp [ownSurvey, h]

theorem ownSurvey_off (h : s.line.state = .off) : ownSurvey s = refuse s .lineOff := by simp [ownSurvey, h]

theorem ownSurvey_held (h : s.line.state = .held) : ownSurvey s = refuse s .lineHeld := by simp [ownSurvey, h]

theorem frameBoundary_stops (h : s.survey.stopping = true) : frameBoundary s = surveyStops s := by
  simp [frameBoundary, h]

@[simp] theorem frameBoundary_now : (frameBoundary s).now = s.now := by simp [State.now]

/-- What is on the line and the survey's first frame wait for the reply to SURVEY. -/
theorem service_surveyReplyOwed (hl : s.line.state = .survey) (ho : s.line.owed = []) (hf : s.pool.inFlight = none)
    (hr : s.surveyReplyOwed = true) : service s = s := by
  unfold service
  split
  · simp [ho, beginWork, hl, hf, beginSurveyWork_owed hr]
  · rfl

/-- With the reply to SURVEY sent a survey that is between its rounds begins one. -/
theorem service_beginRound (ha : s.lineAllows = true) (hl : s.line.state = .survey) (ho : s.line.owed = [])
    (hf : s.pool.inFlight = none) (hr : s.surveyReplyOwed = false) (hround : s.survey.round = none) :
    service s = beginRound s := by
  simp [service, ha, ho, beginWork, hl, hf, beginSurveyWork_sent hr, beginSurveyFrame, hround]

theorem service_lineHolds (h : s.lineAllows = false) : service s = s := by simp [service, h]

theorem settle_service (h : s.noHoldAsked) : settle s = service s := by rw [settle, takeHold_none h]

/-! ## The end of a turn that concerns no one else (R46) -/

theorem exec_spaceEnd (hp : s.start.phase = .running) : exec .spaceEnd s = .next (spaceEnds s) := by
  show Host.Outcome.next (whenLive _ s) = _
  rw [whenLive_running _ hp]

theorem spaceEnds_space {x : Transaction} (hx : s.line.txn = some x) (hp : x.phase = .space) :
    spaceEnds s = settle (spaceDone x s) := by
  simp [spaceEnds, hx, hp]

theorem spaceDone_plain {x : Transaction} (h : x.user = .poll ∨ x.user = .pool ∨ x.user = .keepAlive) :
    spaceDone x s = s.nodesLeave.setTxn none := by
  rcases h with h | h | h <;> simp [spaceDone, h]

/-! ## The end of a reply -/

theorem applyRate_none (h : s.link.rateChange = none) : applyRate s = s := by simp [applyRate, h]

theorem replyEnds_sent (hr : s.link.reply.isSome = true) (hd : s.link.restartDue = false)
    (hc : s.link.rateChange = none) : replyEnds s =
      if s.surveyReplyOwed then settle (s.setLink { s.link with reply := none, clearMayFollow := false })
      else s.setLink { s.link with reply := none, clearMayFollow := false } := by
  have hrate := applyRate_none (s := s.setLink { s.link with reply := none, clearMayFollow := false }) hc
  rw [replyEnds, if_pos hr, hd, if_neg Bool.false_ne_true]
  exact congrArg (fun sent => if s.surveyReplyOwed then settle sent else sent) hrate

/-! ## FORGET and the gate requests -/

theorem ownForget_survey (h : s.line.state = .survey) : ownForget (slotByte i) s = refuse s .busy := by
  simp [ownForget, h]

theorem ownForget_free (h : s.line.state ≠ .survey) (he : (s.entry i).state = .free) :
    ownForget (slotByte i) s = refuse s .noNode := by simp [ownForget, h, he]

theorem ownForget_wrongState (h : s.line.state ≠ .survey)
    (he : (s.entry i).state = .active ∨ (s.entry i).state = .paused ∨ (s.entry i).state = .undescribed) :
    ownForget (slotByte i) s = refuse s .wrongState := by
  rcases he with he | he | he <;> simp [ownForget, h, he]

theorem ownForget_lost (h : s.line.state ≠ .survey) (he : (s.entry i).state = .lost) :
    ownForget (slotByte i) s = accept (freeEntry i s) [] := by simp [ownForget, h, he]

theorem withNode_free {k : Slot → State × Status × List Byte} (h : (s.entry i).state = .free) :
    withNode (slotByte i) s k = refuse s .noNode := by simp [withNode, h]

theorem withNode_node {k : Slot → State × Status × List Byte} (h : (s.entry i).state ≠ .free) :
    withNode (slotByte i) s k = k i := by simp [withNode, h]

theorem ownOpenGate_held (h : s.line.state = .held) : ownOpenGate (slotByte i) s = refuse s .lineHeld := by
  simp [ownOpenGate, h]

theorem ownOpenGate_free (h : s.line.state ≠ .held) (he : (s.entry i).state = .free) :
    ownOpenGate (slotByte i) s = refuse s .noNode := by simp [ownOpenGate, h, he]

theorem ownOpenGate_modeFree (h : s.line.state ≠ .held) (he : (s.entry i).state ≠ .free)
    (hm : (s.entry i).gateMode = .free) : ownOpenGate (slotByte i) s = accept s [] := by
  simp [ownOpenGate, h, he, hm]

theorem ownOpenGate_opens (h : s.line.state ≠ .held) (he : (s.entry i).state ≠ .free)
    (hm : (s.entry i).gateMode ≠ .free) : ownOpenGate (slotByte i) s =
      accept (s.setEntry i { s.entry i with gateOpen := true }) [] := by
  simp [ownOpenGate, h, he, hm]

theorem ownSetGateMode_badValue {slot mode : Byte} (h : gateModeOf mode = none) :
    ownSetGateMode slot mode s = refuse s .badValue := by simp [ownSetGateMode, h]

theorem ownSetGateMode_mode {slot mode : Byte} {m : GateMode} (h : gateModeOf mode = some m) :
    ownSetGateMode slot mode s = withNode slot s fun i =>
      accept (s.setEntry i { s.entry i with gateMode := m, gateSource := .host, gateOpen := false }) [] := by
  simp [ownSetGateMode, h]

end Sys2Proof.Machine

namespace Sys2Proof.Proofs

open Sys2Proof Sys2Proof.Machine

/-- Settles O17: three requests, each by the checks of its owner. -/
theorem lineRateSurveyResultAndSetPoll : Obligations.LineRateSurveyResultAndSetPoll := by
  refine ⟨fun rate s hs => ⟨fun h => exec_refused hs (ownSetLineRate_badValue h), fun h hl => exec_refused hs ?wrong,
    fun h hl => exec_accepted hs ?rate⟩, fun s hs => ⟨exec_accepted hs rfl, fun period limit h => ?poll,
    fun period limit h => exec_refused hs (ownSetPoll_badValue h)⟩⟩
  case wrong => rw [ownSetLineRate_known h, if_neg hl]
  case rate => rw [ownSetLineRate_known h, if_pos hl]
  case poll =>
    exact ⟨_, exec_accepted hs (ownSetPoll_fits h), rfl, entry_zeroMisses _, rfl, rfl, rfl, rfl, rfl, rfl, rfl, rfl, rfl,
      rfl, rfl⟩

/-- Settles O18: the survey begins, and its first frame waits for the end of the reply. -/
theorem surveyBegins : Obligations.SurveyBegins := by
  refine ⟨fun s hs => ⟨fun h => exec_refused hs (ownSurvey_survey h), fun h => exec_refused hs (ownSurvey_off h),
    fun h => exec_refused hs (ownSurvey_held h), fun h => ⟨_, exec_accepted hs (ownSurvey_running h), ?begins⟩⟩, ?waits⟩
  case begins =>
    refine ⟨?line, ?sched, ?survey, fun hstop => ?link, fun hstop hclear => ?latch, startSurvey_start, ?settings,
      startSurvey_dir, startSurvey_store, startSurvey_pool, startSurvey_faults, ?nodes⟩
    case line => simp [State.replied, startSurvey]
    case sched => simp [State.replied, startSurvey]
    case survey => simp [State.replied, startSurvey]
    case link => simp [State.replied, startSurvey, frameBoundary_none hstop, statusCode]
    case latch =>
      have hdone : (surveyStops s).link.surveyDone = true := (surveyStopped_surveyStops s).2 hclear
      have hlink : (surveyStops s).link = { s.link with surveyDone := true } := hdone ▸ surveyStops_link
      simp [State.replied, startSurvey, frameBoundary_stops hstop, hlink, statusCode]
    case settings => simp [State.replied, startSurvey]
    case nodes => simp [State.replied, startSurvey]
  case waits =>
    intro s hp hr hl ho hf hn
    have howed : s.surveyReplyOwed = true := by simp [State.surveyReplyOwed, hr]
    refine ⟨fun x hx hphase huser => ?_, fun hd hc => ?_⟩
    · rw [exec_spaceEnd hp, spaceEnds_space hx hphase, spaceDone_plain huser,
        settle_service (s := s.nodesLeave.setTxn none) hn,
        service_surveyReplyOwed (s := s.nodesLeave.setTxn none) hl ho hf howed]
    · intro sent
      have hends : exec .replyEnd s = .next (service sent) := by
        rw [exec_replyEnd hp, replyEnds_sent (by simp [hr]) hd hc, if_pos howed,
          settle_service (s := sent) hn]
      refine ⟨fun ha hround => ?_, fun ha => ?_⟩
      · rw [hends, service_beginRound (s := sent) ha hl ho hf rfl hround]
        rfl
      · rw [hends, service_lineHolds (s := sent) ha]

/-- Settles O20: the checks of FORGET and of the gate requests, in their order. -/
theorem forgetAndGateRequestsDecide : Obligations.ForgetAndGateRequestsDecide := by
  refine ⟨fun i s hs => ⟨fun h => exec_refused hs (ownForget_survey h), fun h he => exec_refused hs (ownForget_free h he),
    fun h he => exec_refused hs (ownForget_wrongState h he), fun h he => exec_accepted hs (ownForget_lost h he)⟩,
    fun i s hs => ⟨fun h => exec_refused hs (ownOpenGate_held h), fun h he => exec_refused hs (ownOpenGate_free h he),
      fun h he hm => exec_accepted hs (ownOpenGate_modeFree h he hm),
      fun h he hm => exec_accepted hs (ownOpenGate_opens h he hm), fun he => exec_refused hs (withNode_free he),
      fun he => exec_accepted hs (withNode_node he), fun _ _ h => exec_refused hs (ownSetGateMode_badValue h),
      fun mode m h => ⟨fun he => exec_refused hs ?noNode, fun he => exec_accepted hs ?mode⟩⟩⟩
  case noNode => rw [ownSetGateMode_mode h, withNode_free he]
  case mode => rw [ownSetGateMode_mode h, withNode_node he]

end Sys2Proof.Proofs
end
section
/-! PROOFS. The directory's queries and bindings, the report store's requests, and the requests of the pool. -/

namespace Sys2Proof.Machine

variable {s : State} {i : Slot}

/-! ## BIND (R19) -/

theorem ownBind_survey (h : s.line.state = .survey) : ownBind (slotByte i) s = refuse s .busy := by simp [ownBind, h]

theorem ownBind_free (h : s.line.state ≠ .survey) (he : (s.entry i).state = .free) :
    ownBind (slotByte i) s = refuse s .noNode := by simp [ownBind, h, he]

theorem ownBind_slotBound {x y : Identity} (h : s.line.state ≠ .survey) (he : (s.entry i).state ≠ .free)
    (hx : (s.entry i).identity = some x) (hy : cell s.dir.bindings i = some y) (hne : y ≠ x) :
    ownBind (slotByte i) s = refuse s .slotBound := by
  cases hstate : (s.entry i).state <;> simp_all [ownBind]

/-- The byte of BIND's reply for the slot that the identity was bound to before. -/
def formerByte (s : State) (i : Slot) (x : Identity) : Byte :=
  match s.formerSlot i x with
  | some j => slotByte j
  | none => 0

theorem ownBind_binds {x : Identity} (h : s.line.state ≠ .survey) (he : (s.entry i).state ≠ .free)
    (hx : (s.entry i).identity = some x) (hb : cell s.dir.bindings i = none ∨ cell s.dir.bindings i = some x) :
    ownBind (slotByte i) s = accept (bindTo i x s) [formerByte s i x] := by
  have hown : (cell s.dir.bindings i).any (fun y => decide (y ≠ x)) = false := by rcases hb with hb | hb <;> simp [hb]
  cases hstate : (s.entry i).state <;> simp_all [ownBind] <;> rfl

theorem cell_bindTo (x : Identity) (j : Slot) : cell (bindTo i x s).dir.bindings j =
    if j = i then some x else if cell s.dir.bindings j = some x then none else cell s.dir.bindings j := by
  by_cases hj : j = i
  · subst hj
    rw [if_pos rfl]
    exact cell_putCell_self _ _ _
  · rw [if_neg hj]
    exact (cell_putCell_ne _ hj _).trans (cell_mapCells _ _ _)

theorem formerByte_cases (x : Identity) :
    formerByte s i x = 0 ∧ (∀ j : Slot, j ≠ i → cell s.dir.bindings j ≠ some x) ∨
      ∃ j : Slot, j ≠ i ∧ formerByte s i x = slotByte j ∧ cell s.dir.bindings j = some x := by
  unfold formerByte
  cases hf : s.formerSlot i x with
  | none =>
    refine .inl ⟨rfl, fun j hj hx => ?_⟩
    have := List.find?_eq_none.1 hf j (mem_slots j)
    simp [hj, hx] at this
  | some j =>
    have hfound := List.find?_some hf
    simp only [Bool.and_eq_true, decide_eq_true_eq] at hfound
    exact .inr ⟨j, hfound.1, rfl, hfound.2⟩

/-! ## The queries of the directory (R11, R12) -/

theorem mem_changeList : i ∈ s.changeList ↔ s.isChanged i = true := by
  simp [State.changeList, mem_slots]

theorem changeList_pairwise (s : State) : s.changeList.Pairwise (fun a b => a < b) := slots_pairwise_lt.filter _

theorem mem_nodesFrom {j : Slot} : j ∈ s.nodesFrom i ↔ i ≤ j ∧ (s.entry j).state ≠ .free := by
  simp [State.nodesFrom, mem_slots]

theorem nodesFrom_pairwise (s : State) (i : Slot) : (s.nodesFrom i).Pairwise (fun a b => a < b) :=
  slots_pairwise_lt.filter _

theorem length_bigEndian : ∀ k v : Nat, (bigEndian k v).length = k
  | 0, _ => rfl
  | k + 1, v => by rw [bigEndian, List.length_cons, length_bigEndian k v]

theorem length_optionBytes {α : Type} {width : Nat} {f : α → List Byte} (h : ∀ x, (f x).length = width)
    (o : Option α) : (optionBytes width f o).length = width := by
  cases o with
  | none => simp [optionBytes]
  | some x => exact h x

theorem length_descriptorBytes (d : Descriptor) : (descriptorBytes d).length = 8 := by
  simp [descriptorBytes]

theorem length_nodeInfoBytes (e : Entry) (ring : Bool) (bound : Option Identity) :
    (nodeInfoBytes e ring bound).length = 40 := by
  have hid : ∀ o, (optionBytes 6 identityBytes o).length = 6 := length_optionBytes fun _ => length_bigEndian _ _
  have hdesc : (optionBytes 8 descriptorBytes e.descriptor).length = 8 := length_optionBytes length_descriptorBytes _
  have hseq : (optionBytes 1 (fun q => [q]) e.lastSequence).length = 1 := length_optionBytes (fun q => List.length_singleton (a := q)) _
  have hseat : (optionBytes 4 (fun t : Timestamp => bigEndian 4 t.toNat) e.seatedAt).length = 4 :=
    length_optionBytes (fun _ => length_bigEndian _ _) _
  simp [nodeInfoBytes, hid, hdesc, hseq, hseat, length_bigEndian]

/-! ## Requests that name a ring -/

theorem withNode_badSlot {slot : Byte} (h : slotOf slot = none) (s : State) (k : Slot → State × Status × List Byte) :
    withNode slot s k = refuse s .badSlot := withSlot_none h s _

theorem withRing_badSlot {slot : Byte} (h : slotOf slot = none) (s : State)
    (k : Slot → Ring → State × Status × List Byte) : withRing slot s k = refuse s .badSlot := withNode_badSlot h s _

theorem withRing_free {k : Slot → Ring → State × Status × List Byte} (h : (s.entry i).state = .free) :
    withRing (slotByte i) s k = refuse s .noNode := withNode_free h

theorem withRing_none {k : Slot → Ring → State × Status × List Byte} (h : (s.entry i).state ≠ .free)
    (hr : s.ring i = none) : withRing (slotByte i) s k = refuse s .noRing := by
  rw [withRing, withNode_node h, hr]

theorem withRing_ring {k : Slot → Ring → State × Status × List Byte} {r : Ring} (h : (s.entry i).state ≠ .free)
    (hr : s.ring i = some r) : withRing (slotByte i) s k = k i r := by
  rw [withRing, withNode_node h, hr]

/-- What ASSIGN_RING checks of its parameters. -/
def ringFits (base size watermark : BitVec 16) : Prop :=
  size.toNat ∈ ringSizes ∧ base.toNat % size.toNat = 0 ∧ base.toNat + size.toNat ≤ 8192 ∧ watermark.toNat ≤ size.toNat

theorem ownAssignRing_badValue {slot policy : Byte} {base size watermark : BitVec 16}
    (h : ¬ ((policyOf policy).isSome = true ∧ ringFits base size watermark)) :
    ownAssignRing slot base size policy watermark s = refuse s .badValue := by
  unfold ownAssignRing
  split
  · rfl
  · rename_i p hp
    have hfits : ¬ ringFits base size watermark := fun hf => h ⟨by simp [hp], hf⟩
    exact if_neg hfits

theorem ownAssignRing_fits {slot policy : Byte} {p : RingPolicy} {base size watermark : BitVec 16}
    (hp : policyOf policy = some p) (h : ringFits base size watermark) :
    ownAssignRing slot base size policy watermark s =
      withNode slot s fun i =>
        if s.overlapsOther i base.toNat size.toNat then refuse s .overlap
        else
          accept ((releaseRing i s).setRing i (some (newRing base.toNat size.toNat p watermark.toNat)))
            (bigEndian 2 (ringCount (s.ring i))) := by
  simp only [ownAssignRing, hp]
  exact if_pos h

/-- The later of two writes of one ring stands. -/
theorem setRing_setRing (a b : Option Ring) : (s.setRing i a).setRing i b = s.setRing i b := by
  have hrings : putCell (putCell s.store.rings i a) i b = putCell s.store.rings i b := by
    refine table_ext fun j => ?_
    by_cases hj : j = i
    · subst hj
      simp
    · simp [cell_putCell_ne _ hj]
  simp only [State.setRing, hrings]

theorem ownSetRing_badValue {slot policy : Byte} {watermark : BitVec 16}
    (h : policyOf policy = none ∨ 4096 < watermark.toNat) : ownSetRing slot policy watermark s = refuse s .badValue := by
  unfold ownSetRing
  split
  · rfl
  · rename_i p hp
    exact if_pos (h.resolve_left (by simp [hp]))

theorem ownSetRing_fits {slot policy : Byte} {p : RingPolicy} {watermark : BitVec 16} (hp : policyOf policy = some p)
    (h : watermark.toNat ≤ 4096) : ownSetRing slot policy watermark s =
      withRing slot s fun i r =>
        if r.size < watermark.toNat then refuse s .badValue
        else accept (s.setRing i (some { r with policy := p, watermark := watermark.toNat })) [] := by
  simp only [ownSetRing, hp]
  exact if_neg (Nat.not_lt.2 h)

theorem ownFetch_badValue {slot max : Byte} (h : ¬ (1 ≤ max.toNat ∧ max.toNat ≤ 10)) :
    ownFetch slot max s = refuse s .badValue := if_neg h

theorem ownPeek_badValue {slot skip max : Byte} (h : ¬ (1 ≤ max.toNat ∧ max.toNat ≤ 10)) :
    ownPeek slot skip max s = refuse s .badValue := if_neg h

theorem ownFetch_fits {slot max : Byte} (h : 1 ≤ max.toNat ∧ max.toNat ≤ 10) : ownFetch slot max s =
    withRing slot s fun i r =>
      accept (s.setRing i (some (dropRecords s.store.memory (min max.toNat r.count) r)))
        (BitVec.ofNat 8 (min max.toNat r.count) :: bigEndian 2 (r.count - min max.toNat r.count) ++
          (readRecords s.store.memory r (min max.toNat r.count) 0).flatten) := if_pos h

theorem ownPeek_fits {slot skip max : Byte} (h : 1 ≤ max.toNat ∧ max.toNat ≤ 10) : ownPeek slot skip max s =
    withRing slot s fun _ r =>
      accept s
        (BitVec.ofNat 8 (min max.toNat (r.count - skip.toNat)) ::
          bigEndian 2 (r.count - skip.toNat - min max.toNat (r.count - skip.toNat)) ++
          (readRecords s.store.memory r (min max.toNat (r.count - skip.toNat))
            (afterRecords s.store.memory r (min skip.toNat r.count) 0)).flatten) := if_pos h

/-- A record that an emptied ring takes: it stands alone and marks no loss. -/
theorem appendTo_flushed {r : Ring} {rec : ReportRecord} (u : State) (hfits : (recordBytes rec).length ≤ r.size)
    (hloss : rec.lossBefore = false) :
    appendTo i { r with used := 0, count := 0, pendingLoss := false } rec u =
      (u.setMemory
          (ringWrite u.store.memory { r with used := 0, count := 0, pendingLoss := false } 0 (recordBytes rec))).setRing i
        (some
          { r with
            used := (recordBytes rec).length, count := 1, pendingLoss := false, stored := satAdd r.stored 1 }) := by
  have hrec : ({ rec with lossBefore := false } : ReportRecord) = rec := by rw [← hloss]
  rw [appendTo, if_pos (show (recordBytes rec).length ≤ r.size - 0 from hfits), storeRecord]
  simp only [Bool.or_self, hrec, Nat.zero_add]

theorem length_ringInfoBytes (r : Ring) : (ringInfoBytes r).length = 20 := by
  simp [ringInfoBytes, length_bigEndian]

end Sys2Proof.Machine

namespace Sys2Proof.Proofs

open Sys2Proof Sys2Proof.Machine

/-- Settles O21: the checks of BIND in their order, and the bindings after it. -/
theorem bindDecides : Obligations.BindDecides := by
  intro i s hs
  refine ⟨fun h => exec_refused hs (ownBind_survey h), fun h he => exec_refused hs (ownBind_free h he),
    fun x y h he hx hy hne => exec_refused hs (ownBind_slotBound h he hx hy hne), fun x h he hx hb => ?_⟩
  exact ⟨_, formerByte s i x, exec_accepted hs (ownBind_binds h he hx hb), cell_bindTo x, formerByte_cases x, rfl, rfl,
    rfl, rfl, rfl, rfl, rfl, rfl, rfl, rfl, rfl, rfl⟩

/-- Settles O23: the queries answer from the change set and the entries. -/
theorem directoryQueriesReport : Obligations.DirectoryQueriesReport := by
  intro s hs
  exact ⟨exec_accepted hs rfl, fun i => exec_accepted hs (withSlot_slotByte i s _), fun i => mem_changeList,
    changeList_pairwise s, fun i j => mem_nodesFrom, nodesFrom_pairwise s,
    fun i => ⟨exec_accepted hs (withSlot_slotByte i s _), length_nodeInfoBytes _ _ _⟩⟩

/-- Settles O25: the checks of the ring requests, and the rings after them. -/
theorem ringsAreAssignedSetAndReleased : Obligations.RingsAreAssignedSetAndReleased := by
  refine ⟨fun i base size watermark policy s hs => ⟨fun slot h => exec_refused hs (ownAssignRing_badValue h),
    fun p hp h1 h2 h3 h4 => ?assign⟩, fun i s hs => ⟨fun he => exec_refused hs (withRing_free he),
      fun he hr => exec_refused hs (withRing_none he hr), fun r he hr => exec_accepted hs (withRing_ring he hr),
      fun slot policy watermark h => exec_refused hs (ownSetRing_badValue h), fun policy p watermark hp hw => ?set⟩⟩
  case assign =>
    have hown := fun slot => ownAssignRing_fits (s := s) (slot := slot) hp ⟨h1, h2, h3, h4⟩
    refine ⟨fun slot h => exec_refused hs ?_, fun he => exec_refused hs ?_, fun he ho => exec_refused hs ?_,
      fun he ho => exec_accepted hs ?_⟩
    · rw [hown, withNode_badSlot h]
    · rw [hown, withNode_free he]
    · rw [hown, withNode_node he, if_pos ho]
    · rw [hown, withNode_node he, ho, releaseRing, setRing_setRing]
      rfl
  case set =>
    have hown := fun slot => ownSetRing_fits (s := s) (slot := slot) hp hw
    refine ⟨fun he => exec_refused hs ?_, fun he hr => exec_refused hs ?_, fun r he hr hlt => exec_refused hs ?_,
      fun r he hr hle => exec_accepted hs ?_⟩
    · rw [hown, withRing_free he]
    · rw [hown, withRing_none he hr]
    · rw [hown, withRing_ring he hr, if_pos hlt]
    · rw [hown, withRing_ring he hr, if_neg (Nat.not_lt.2 hle)]

/-- Settles O26: the four requests that read or empty a ring. -/
theorem fetchPeekFlushAndRingInfo : Obligations.FetchPeekFlushAndRingInfo := by
  refine ⟨fun i s hs => ⟨fun slot skip max h => ⟨exec_refused hs (ownFetch_badValue h),
    exec_refused hs (ownPeek_badValue h)⟩, fun skip max r h1 h2 he hr => ?records, fun skip max h1 h2 he hr => ?noRing,
    fun skip max h1 h2 he => ?noNode, fun he => ⟨exec_refused hs (withRing_free he), exec_refused hs (withRing_free he)⟩,
    fun he hr => ⟨exec_refused hs (withRing_none he hr), exec_refused hs (withRing_none he hr)⟩⟩,
    fun i r s hs he hr => ⟨exec_accepted hs (withRing_ring he hr), fun rec u => appendTo_flushed u,
      exec_accepted hs (withRing_ring he hr), length_ringInfoBytes r⟩⟩
  case records =>
    exact ⟨⟨_, exec_accepted hs ((ownFetch_fits ⟨h1, h2⟩).trans (withRing_ring he hr)), rfl⟩,
      exec_accepted hs ((ownPeek_fits ⟨h1, h2⟩).trans (withRing_ring he hr))⟩
  case noRing =>
    exact ⟨exec_refused hs ((ownFetch_fits ⟨h1, h2⟩).trans (withRing_none he hr)),
      exec_refused hs ((ownPeek_fits ⟨h1, h2⟩).trans (withRing_none he hr))⟩
  case noNode =>
    exact ⟨exec_refused hs ((ownFetch_fits ⟨h1, h2⟩).trans (withRing_free he)),
      exec_refused hs ((ownPeek_fits ⟨h1, h2⟩).trans (withRing_free he))⟩

end Sys2Proof.Proofs
end
section
/-! PROOFS. The requests of the pool, and the slots that no request takes. -/

namespace Sys2Proof.Machine

variable {s : State} {i : Slot}

/-! ## The acceptance of a pool request (R110, R112) -/

/-- Each of the five instructions of the pool is the one request, with the work it names. -/
theorem exec_poolForm {c : Instr} {code tag slot : Byte} {work : PoolWork} (h : poolForm c = some (code, tag, slot, work)) :
    exec c s = .next (request code false (ownPoolRequest tag slot true work) s) := by
  unfold poolForm at h
  split at h
  · cases h
    rfl
  · split at h
    · rename_i hlen
      cases h
      exact congrArg Host.Outcome.next (if_pos (by simpa using hlen))
    · cases h
  · cases h
    rfl
  · cases h
    rfl
  · obtain ⟨p, hp, heq⟩ := Option.map_eq_some_iff.1 h
    cases heq
    show Host.Outcome.next (takeNodeTest _ _ _ s) = _
    rw [takeNodeTest, hp]
    rfl
  · cases h

theorem ownPoolRequest_invalid {tag slot : Byte} {work : PoolWork} :
    ownPoolRequest tag slot false work s = refuse s .badValue := if_pos (.inr rfl)

theorem ownPoolRequest_zero {slot : Byte} {work : PoolWork} :
    ownPoolRequest 0 slot true work s = refuse s .badValue := if_pos (.inl rfl)

/-- A request with a tag, past the checks of its parameters. -/
theorem ownPoolRequest_tagged {tag slot : Byte} {work : PoolWork} (h : tag ≠ 0) :
    ownPoolRequest tag slot true work s = withSlot slot s fun i =>
      if s.line.state = .held then refuse s .lineHeld
      else if (s.entry i).state = .free then refuse s .noNode
      else if tag ∈ s.pool.tags then refuse s .duplicateTag
      else if 8 ≤ s.pool.size then refuse s .poolFull
      else if gateRefuses work (s.entry i) then refuse s .gateClosed
      else accept (settle (enqueue tag i work s)) [] := by
  have hvalid : ¬ (tag = 0 ∨ true = false) := fun h' => h'.elim h nofun
  rw [ownPoolRequest, if_neg hvalid]

theorem withSlot_some {slot : Byte} (h : slotOf slot = some i) (s : State) (k : Slot → State × Status × List Byte) :
    withSlot slot s k = k i := by simp [withSlot, h]

theorem gateRefuses_iff {work : PoolWork} {e : Entry} :
    gateRefuses work e = true ↔ isWrite work = true ∧ e.gateMode ≠ .free ∧ e.gateOpen = false := by
  simp [gateRefuses, and_assoc]

/-- A request that passes every check. -/
theorem ownPoolRequest_accepted {tag slot : Byte} {work : PoolWork} (htag : tag ≠ 0) (hslot : slotOf slot = some i)
    (hheld : s.line.state ≠ .held) (he : (s.entry i).state ≠ .free) (hnew : tag ∉ s.pool.tags) (hroom : s.pool.size < 8)
    (hgate : isWrite work = true → (s.entry i).gateMode = .free ∨ (s.entry i).gateOpen = true) :
    ownPoolRequest tag slot true work s = accept (settle (enqueue tag i work s)) [] := by
  have hopen : ¬ gateRefuses work (s.entry i) = true := fun hr => by
    obtain ⟨hw, hm, ho⟩ := gateRefuses_iff.1 hr
    rcases hgate hw with h | h
    · exact hm h
    · rw [ho] at h
      cases h
  rw [ownPoolRequest_tagged htag, withSlot_some hslot, if_neg hheld, if_neg he, if_neg hnew, if_neg (Nat.not_le.2 hroom),
    if_neg hopen]

/-- R14: the gate after an acceptance. -/
theorem gateAfter_eq (work : PoolWork) (e : Entry) : gateAfter work e =
    { e with gateOpen := e.gateOpen && !(isWrite work && decide (e.gateMode = .gated)) } := by
  by_cases h : isWrite work = true ∧ e.gateMode = .gated
  · rw [gateAfter, if_pos h]
    simp [h.1, h.2]
  · have hoff : (isWrite work && decide (e.gateMode = .gated)) = false := by simpa using h
    rw [gateAfter, if_neg h, hoff]
    simp

@[simp] theorem gateAfter_state (work : PoolWork) (e : Entry) : (gateAfter work e).state = e.state := by
  rw [gateAfter_eq]

/-! ## What settling does with the new request -/

theorem service_off (hl : s.line.state = .off) (ho : s.line.owed = []) : service s = s := by
  unfold service
  split
  · simp [ho, beginWork, hl]
  · rfl

theorem startRequest_present {r : PoolRequest} {rest : List PoolRequest} (hf : (s.entry r.slot).state ≠ .free)
    (hl : (s.entry r.slot).state ≠ .lost) : startRequest r rest s =
      beginPoolAttempt r
        ((s.setLine { s.line with lastGrant := .pool }).setPool { s.pool with queued := rest, inFlight := some r }) := by
  unfold startRequest
  dsimp only
  split
  · exact absurd ‹_› hf
  · exact absurd ‹_› hl
  all_goals rfl

/-- R77: where the pool's head is all that waits, it is granted. -/
theorem arbitrate_onlyPool {n : Nat} {r : PoolRequest} {rest : List PoolRequest} (hd : s.lowestDue = none)
    (hq : s.pool.queued = r :: rest) (hf : (s.entry r.slot).state ≠ .free) (hl : (s.entry r.slot).state ≠ .lost) :
    arbitrate (n + 1) s = startRequest r rest s := by
  have hbusy : (startRequest r rest s).line.txn.isSome = true := by
    rw [startRequest_present hf hl]
    rfl
  simp [arbitrate, hd, hq, grantChoice, hbusy]

theorem service_running (ha : s.lineAllows = true) (ho : s.line.owed = []) (hl : s.line.state = .running)
    (hk : s.line.keepWaiting = false) (hf : s.pool.inFlight = none) :
    service s = arbitrate (s.pool.queued.length + 1) s := by
  simp [service, ha, ho, beginWork, hl, hk, hf]

/-! ## TAKE_RESULTS and CANCEL -/

theorem ownTakeResults_badValue {max : Byte} (h : ¬ (1 ≤ max.toNat ∧ max.toNat ≤ 8)) :
    ownTakeResults max s = refuse s .badValue := if_neg h

theorem ownTakeResults_takes {max : Byte} (h : 1 ≤ max.toNat ∧ max.toNat ≤ 8) : ownTakeResults max s =
    accept (s.setPool { s.pool with completed := s.pool.completed.drop max.toNat })
      (BitVec.ofNat 8 (s.pool.completed.take max.toNat).length ::
        BitVec.ofNat 8 (s.pool.completed.drop max.toNat).length ::
        ((s.pool.completed.take max.toNat).map completionBytes).flatten) := if_pos h

theorem ownCancel_zero : ownCancel 0 s = refuse s .badValue := if_pos rfl

theorem ownCancel_queued {tag : Byte} (h : tag ≠ 0) (hq : tag ∈ s.pool.queued.map (fun r => r.tag)) :
    ownCancel tag s = accept (s.setPool { s.pool with queued := s.pool.queued.filter fun r => r.tag ≠ tag }) [] := by
  rw [ownCancel, if_neg h, if_pos hq]

theorem ownCancel_inFlight {tag : Byte} {r : PoolRequest} (h : tag ≠ 0) (hq : tag ∉ s.pool.queued.map (fun r => r.tag))
    (hf : s.pool.inFlight = some r) (ht : r.tag = tag) : ownCancel tag s = refuse s .inFlight := by
  rw [ownCancel, if_neg h, if_neg hq, if_pos (by simp [hf, ht])]

theorem ownCancel_completed {tag : Byte} (h : tag ≠ 0) (hq : tag ∉ s.pool.queued.map (fun r => r.tag))
    (hf : ∀ r, s.pool.inFlight = some r → r.tag ≠ tag) (hc : tag ∈ s.pool.completed.map (fun c => c.request.tag)) :
    ownCancel tag s = refuse s .wrongState := by
  have hflight : tag ∉ s.pool.inFlight.toList.map (fun r => r.tag) := by
    simp only [List.mem_map, Option.mem_toList, not_exists, not_and]
    exact fun r hr => hf r hr
  rw [ownCancel, if_neg h, if_neg hq, if_neg hflight, if_pos hc]

theorem ownCancel_unknown {tag : Byte} (h : tag ≠ 0) (ht : tag ∉ s.pool.tags) :
    ownCancel tag s = refuse s .unknownTag := by
  simp only [Pool.tags, List.mem_append, not_or] at ht
  obtain ⟨⟨hq, hf⟩, hc⟩ := ht
  rw [ownCancel, if_neg h, if_neg hq, if_neg hf, if_neg hc]

end Sys2Proof.Machine

namespace Sys2Proof.Proofs

open Sys2Proof Sys2Proof.Machine

/-- Settles O27: the acceptance checks, in their order. -/
theorem poolRequestsAreCheckedInOrder : Obligations.PoolRequestsAreCheckedInOrder := by
  intro c code tag slot work s hs
  refine ⟨fun pattern hp => ?pattern, fun hform => ?checks⟩
  case pattern =>
    refine exec_refused (owner := ownPoolRequest tag slot (patternOf pattern).isSome
      (.test ((patternOf pattern).getD .a))) hs ?_
    rw [hp]
    exact ownPoolRequest_invalid
  case checks =>
    have hx := exec_poolForm (s := s) hform
    refine ⟨fun h0 => exec_refused hs ?_ hx, fun ht h0 => exec_refused hs ?_ hx, fun i ht hi => ?_⟩
    · rw [h0]
      exact ownPoolRequest_zero
    · rw [ownPoolRequest_tagged ht, withSlot_none h0]
    · have hown := (ownPoolRequest_tagged (s := s) (slot := slot) (work := work) ht).trans (withSlot_some hi s _)
      refine ⟨fun hh => exec_refused hs ?_ hx, fun hh he => exec_refused hs ?_ hx, fun hh he hd => exec_refused hs ?_ hx,
        fun hh he hd hf => exec_refused hs ?_ hx, fun hh he hd hf hw hm hg => exec_refused hs ?_ hx⟩
      · rw [hown, if_pos hh]
      · rw [hown, if_neg hh, if_pos he]
      · rw [hown, if_neg hh, if_neg he, if_pos hd]
      · rw [hown, if_neg hh, if_neg he, if_neg hd, if_pos hf]
      · rw [hown, if_neg hh, if_neg he, if_neg hd, if_neg (Nat.not_le.2 hf), if_pos (gateRefuses_iff.2 ⟨hw, hm, hg⟩)]

/-- Settles O28: the new request waits at the tail, or is the only thing that waits and begins. -/
theorem poolRequestsAreAccepted : Obligations.PoolRequestsAreAccepted := by
  intro c code tag slot work i s hs hn hform htag hslot hheld he hnew hroom hgate after queued
  have hafter : gateAfter work (s.entry i) = after := gateAfter_eq work _
  have henq : enqueue tag i work s = (s.setPool queued).setEntry i after := by rw [enqueue, hafter]
  have hsettle : settle (enqueue tag i work s) = service (enqueue tag i work s) :=
    settle_service (s := enqueue tag i work s) hn
  have hexec : exec c s = .next ((service (enqueue tag i work s)).replied code .ok []) := by
    rw [← hsettle]
    exact exec_accepted hs (ownPoolRequest_accepted htag hslot hheld he hnew hroom hgate) (exec_poolForm hform)
  refine ⟨fun hwait => ?waits, fun ha ho hl hk hq hf hd hlost => ?begins⟩
  case waits =>
    have hsame : service (enqueue tag i work s) = enqueue tag i work s := by
      rcases hwait with h | ⟨hl, ho⟩
      · exact service_lineHolds (s := enqueue tag i work s) h
      · exact service_off (s := enqueue tag i work s) hl ho
    rw [hexec, hsame, henq]
  case begins =>
    have hqueue : (enqueue tag i work s).pool.queued = [{ tag, slot := i, work, attempts := 0 }] := by
      simp [enqueue, hq]
    have hentry : ((enqueue tag i work s).entry i).state = (s.entry i).state := by simp [enqueue]
    have hserve : service (enqueue tag i work s) =
        startRequest { tag, slot := i, work, attempts := 0 } [] (enqueue tag i work s) := by
      rw [service_running (s := enqueue tag i work s) ha ho hl hk hf]
      exact arbitrate_onlyPool (s := enqueue tag i work s) hd hqueue (hentry ▸ he) (hentry ▸ hlost)
    rw [startRequest_present (hentry ▸ he) (hentry ▸ hlost)] at hserve
    have hserved : Served (enqueue tag i work s) (service (enqueue tag i work s)) :=
      served_service (s := enqueue tag i work s) (by rw [show (enqueue tag i work s).line.state = .running from hl]; decide)
    have hdir : (service (enqueue tag i work s)).dir = ((s.setPool queued).setEntry i after).dir :=
      hserved.dir.trans (congrArg (·.dir) henq)
    have hlink : (service (enqueue tag i work s)).link = s.link := hserved.link
    refine ⟨_, _, hexec, ?pool, congrArg (·.line.txn) hserve, rfl, rfl, rfl, congrArg (·.line.lastGrant) hserve, ?entry,
      fun j hj => ?others, ?link, hserved.start, hserved.settings, hserved.survey, ?sched, hserved.store,
      hserved.faults, hserved.nodes⟩
    case pool =>
      show (service (enqueue tag i work s)).pool = _
      rw [hserve]
      simp [beginPoolAttempt, enqueue, hq]
    case entry => simp [State.replied, State.entry, hdir, State.setEntry]
    case others => simp [State.replied, State.entry, hdir, State.setEntry, cell_putCell_ne _ hj]
    case link => simp [State.replied, hlink, statusCode]
    case sched => exact congrArg (·.sched) hserve

/-- Settles O29: TAKE_RESULTS takes from the front, and CANCEL looks for the tag in queue, flight and completions. -/
theorem takeResultsAndCancel : Obligations.TakeResultsAndCancel := by
  intro s hs
  exact ⟨fun max h => exec_refused hs (ownTakeResults_badValue h),
    fun max h1 h2 => exec_accepted hs (ownTakeResults_takes ⟨h1, h2⟩), exec_refused hs ownCancel_zero,
    fun tag ht => ⟨fun hq => exec_accepted hs (ownCancel_queued ht hq),
      fun r hq hf hr => exec_refused hs (ownCancel_inFlight ht hq hf hr),
      fun hq hf hc => exec_refused hs (ownCancel_completed ht hq hf hc),
      fun hu => exec_refused hs (ownCancel_unknown ht hu)⟩⟩

/-- Settles O24: each request hands its slot to the one slot check. -/
theorem badSlotsAreRefused : Obligations.BadSlotsAreRefused := by
  intro b s hs hb
  refine ⟨exec_refused hs (withSlot_none hb s _), exec_refused hs (withSlot_none hb s _),
    exec_refused hs (withSlot_none hb s _), exec_refused hs (withSlot_none hb s _), exec_refused hs (withSlot_none hb s _),
    exec_refused hs (withSlot_none hb s _), exec_refused hs (withNode_badSlot hb s _),
    fun mode hmode => exec_refused hs ?gateMode, exec_refused hs (withSlot_none hb s _),
    exec_refused hs (withRing_badSlot hb s _), exec_refused hs (withRing_badSlot hb s _),
    exec_refused hs (withRing_badSlot hb s _), exec_refused hs (withSlot_none hb s _),
    fun policy base size watermark hp h1 h2 h3 h4 => exec_refused hs ?assign,
    fun policy watermark hp hw => exec_refused hs ?set,
    fun skip max h1 h2 => ⟨exec_refused hs ((ownFetch_fits ⟨h1, h2⟩).trans (withRing_badSlot hb s _)),
      exec_refused hs ((ownPeek_fits ⟨h1, h2⟩).trans (withRing_badSlot hb s _))⟩,
    fun c code tag work hform htag => exec_refused hs ?pool (exec_poolForm hform),
    fun k detail hlt => exec_refused hs ?inject⟩
  case gateMode =>
    obtain ⟨m, hm⟩ := Option.isSome_iff_exists.1 hmode
    exact (ownSetGateMode_mode hm).trans (withNode_badSlot hb s _)
  case assign =>
    obtain ⟨p, hp⟩ := Option.isSome_iff_exists.1 hp
    exact (ownAssignRing_fits hp ⟨h1, h2, h3, h4⟩).trans (withNode_badSlot hb s _)
  case set =>
    obtain ⟨p, hp⟩ := Option.isSome_iff_exists.1 hp
    exact (ownSetRing_fits hp hw).trans (withRing_badSlot hb s _)
  case pool => exact (ownPoolRequest_tagged htag).trans (withSlot_none hb s _)
  case inject => exact (withKind_faultKindCode k s _).trans (if_pos hlt)

end Sys2Proof.Proofs
end
section
/-! PROOFS. The fault unit: occurrences, the hold that one asks for, injected faults, and the two pins. -/

namespace Sys2Proof.Machine

variable {s : State} {k : FaultKind}

/-! ## Occurrences (R141 to R146) -/

@[simp] theorem recordTaking_count (r : FaultRecord) (o : Occurrence) :
    (recordTaking r o).count = satAdd r.count 1 := rfl

@[simp] theorem recordTaking_latest (r : FaultRecord) (o : Occurrence) : (recordTaking r o).latest = some o := rfl

@[simp] theorem recordTaking_deadline (r : FaultRecord) (o : Occurrence) :
    (recordTaking r o).deadline = r.deadline := rfl

theorem recordTaking_first (r : FaultRecord) (o : Occurrence) :
    (recordTaking r o).first = some (r.first.getD o) := by
  cases h : r.first <;> simp [recordTaking, h]

/-- An alert changes the alert state and the deadline of a record alone. -/
theorem recordAlerted_counts (r : FaultRecord) (d : Timestamp) : (recordAlerted r d).count = r.count ∧
    (recordAlerted r d).first = r.first ∧ (recordAlerted r d).latest = r.latest := by
  unfold recordAlerted
  split <;> exact ⟨rfl, rfl, rfl⟩

theorem recordAlerted_again {r : FaultRecord} (h : r.alert ≠ .none) (d : Timestamp) :
    (recordAlerted r d).alert = r.alert ∧ (recordAlerted r d).deadline = r.deadline := by
  unfold recordAlerted
  split
  · exact absurd ‹_› h
  all_goals exact ⟨rfl, rfl⟩

theorem recordAfter_counts (k : FaultKind) (slot detail : Byte) (injected : Bool) (s : State) :
    (recordAfter k slot detail injected s).count = satAdd (s.record k).count 1 ∧
      (recordAfter k slot detail injected s).first =
        some ((s.record k).first.getD { slot, timestamp := s.now, detail, injected }) ∧
      (recordAfter k slot detail injected s).latest = some { slot, timestamp := s.now, detail, injected } := by
  have halerted := recordAlerted_counts
    (recordTaking (s.record k) { slot, timestamp := s.now, detail, injected }) (s.now + s.ackSpan)
  unfold recordAfter
  dsimp only
  split
  · exact halerted
  · exact ⟨rfl, rfl, rfl⟩

theorem recordAfter_alert_same {slot detail : Byte} {injected : Bool}
    (h : s.reaction k ≠ .alert ∨ (s.record k).alert ≠ .none) :
    (recordAfter k slot detail injected s).alert = (s.record k).alert ∧
      (recordAfter k slot detail injected s).deadline = (s.record k).deadline := by
  unfold recordAfter
  dsimp only
  split
  · exact recordAlerted_again (r := recordTaking (s.record k) _) (h.resolve_left (fun hne => hne ‹_›)) _
  · exact ⟨rfl, rfl⟩

/-! ## The hold that is asked for (R131, R146) -/

/-- What a hold that is taken leaves alone, and the gates it closes. -/
structure HoldTaken (s t : State) : Prop where
  state : t.line.state = .held
  faults : t.faults = { s.faults with holdAsked := false }
  store : t.store = s.store
  start : t.start = s.start
  settings : t.settings = s.settings
  nodes : t.nodes = s.nodes
  link : t.link = { s.link with surveyDone := t.link.surveyDone }
  gates : s.line.state ≠ .held → ∀ i : Slot, t.entry i = { s.entry i with gateOpen := false }

/-- The state whose hold is being taken. -/
def holdGranted (s : State) : State := { s with faults := { s.faults with holdAsked := false } }

theorem takeHold_asked (h : s.faults.holdAsked = true) : takeHold s = holdEntry (holdGranted s) := by
  rw [takeHold, if_pos h]
  rfl

theorem holdTaken_takeHold (h : s.faults.holdAsked = true) : HoldTaken s (takeHold s) := by
  rw [takeHold_asked h]
  by_cases hl : s.line.state = .held
  · rw [holdEntry_held (s := holdGranted s) hl]
    exact ⟨hl, rfl, rfl, rfl, rfl, rfl, rfl, fun hne => absurd hl hne⟩
  · have heq := holdEntry_eq (s := holdGranted s) hl
    refine ⟨holdEntry_state _, holdEntry_faults, holdEntry_store, holdEntry_start, ?settings, ?nodes, ?link,
      fun _ i => ?gates⟩
    case settings =>
      rw [heq]
      exact stopSurvey_settings (holdGranted s)
    case nodes =>
      rw [heq]
      exact stopSurvey_nodes (holdGranted s)
    case link =>
      rw [heq]
      exact stopSurvey_link (holdGranted s)
    case gates =>
      rw [heq]
      exact cell_mapCells _ _ _

theorem HoldTaken.served {t u : State} (h : HoldTaken s t) (hs : Served t u) : HoldTaken s u where
  state := hs.state.trans h.state
  faults := hs.faults.trans h.faults
  store := hs.store.trans h.store
  start := hs.start.trans h.start
  settings := hs.settings.trans h.settings
  nodes := hs.nodes.trans h.nodes
  link := by rw [hs.link]; exact h.link
  gates hl i := by
    rw [State.entry, hs.dir]
    exact h.gates hl i

/-- R146: what settles takes the hold that was asked for. -/
theorem holdTaken_settle (h : s.faults.holdAsked = true) : HoldTaken s (settle s) :=
  (holdTaken_takeHold h).served (served_service (by rw [(holdTaken_takeHold h).state]; decide))

/-! ## INJECT_FAULT (R156) -/

theorem ownInjectFault_badSlot {slot detail : Byte} (h : 32 < slot.toNat) :
    ownInjectFault (faultKindCode k) slot detail s = refuse s .badSlot :=
  (withKind_faultKindCode k s _).trans (if_pos h)

theorem ownInjectFault_injects {slot detail : Byte} (h : slot.toNat ≤ 32) :
    ownInjectFault (faultKindCode k) slot detail s = accept (settle (occur k slot detail true s)) [] :=
  (withKind_faultKindCode k s _).trans (if_neg (Nat.not_lt.2 h))

/-- Nothing waits for the line, so nothing begins. -/
theorem service_rests (h : s.lineRests) : service s = s := by
  rcases h with ha | ⟨ho, hl | ⟨hl, hw⟩ | ⟨hl, hk, hf, hq, hd⟩⟩
  · exact service_lineHolds ha
  · exact service_off hl ho
  · unfold service
    split
    · simp [ho, beginWork, hl, hw]
    · rfl
  · cases ha : s.lineAllows
    · exact service_lineHolds ha
    · rw [service_running ha ho hl hk hf]
      simp [arbitrate, hd, hq, grantChoice]

theorem occur_noHold {slot detail : Byte} {injected : Bool} (hn : s.noHoldAsked) (hr : s.reaction k ≠ .hold) :
    (occur k slot detail injected s).noHoldAsked := by
  have hn' : s.faults.holdAsked = false := hn
  rw [State.noHoldAsked, occur_holdAsked, hn']
  simpa using hr

/-- What the taking up of the next frame leaves alone in every line state. -/
structure Kept (s t : State) : Prop where
  start : t.start = s.start
  settings : t.settings = s.settings
  link : t.link = s.link
  dir : t.dir = s.dir
  store : t.store = s.store
  faults : t.faults = s.faults
  nodes : t.nodes = s.nodes
  state : t.line.state = s.line.state

theorem Served.kept {t : State} (h : Served s t) : Kept s t :=
  ⟨h.start, h.settings, h.link, h.dir, h.store, h.faults, h.nodes, h.state⟩

theorem Kept.trans {t u : State} (h : Kept s t) (h' : Kept t u) : Kept s u :=
  ⟨h'.start.trans h.start, h'.settings.trans h.settings, h'.link.trans h.link, h'.dir.trans h.dir,
    h'.store.trans h.store, h'.faults.trans h.faults, h'.nodes.trans h.nodes, h'.state.trans h.state⟩

theorem kept_beginSurveyFrame (s : State) : Kept s (beginSurveyFrame s) := by
  unfold beginSurveyFrame
  split
  · exact ⟨rfl, rfl, rfl, rfl, rfl, rfl, rfl, rfl⟩
  · split <;> exact ⟨rfl, rfl, rfl, rfl, rfl, rfl, rfl, rfl⟩

theorem kept_service (s : State) : Kept s (service s) :=
  service_keeps (P := Kept s)
    (poll := fun i t _ ht => ht.trans (served_grantPoll i t).kept)
    (start := fun r rest t _ ht => ht.trans (served_startRequest r rest t).1.kept)
    (attempt := fun r t _ ht => ht.trans (served_beginPoolAttempt r t).kept)
    (owed := fun o rest t _ ht => ht.trans (served_beginOwed o rest t).kept)
    (repeated := fun f u t ht => ht.trans (served_beginFrame f u t).kept)
    (survey := fun t _ ht => ht.trans (kept_beginSurveyFrame t))
    (served_same s).kept

/-! ## The pins (R149, R166) -/

theorem alertPin_iff : s.alertPin = true ↔ ∃ k : FaultKind, (s.record k).alert ≠ .none := by
  simp [State.alertPin, State.inAlert, mem_faultKinds]

theorem alert_ne_none_iff (a : AlertState) : a ≠ .none ↔ a = .pending ∨ a = .escalated := by cases a <;> decide

theorem ringAtMark_iff (o : Option Ring) :
    ringAtMark o = true ↔ ∃ r, o = some r ∧ 0 < r.watermark ∧ r.watermark ≤ r.used := by
  cases o <;> simp [ringAtMark]

theorem watermarkLevel_iff : s.watermarkLevel = true ↔
    ∃ (i : Slot) (r : Ring), s.ring i = some r ∧ 0 < r.watermark ∧ r.watermark ≤ r.used := by
  simp [State.watermarkLevel, mem_slots, ringAtMark_iff]

theorem directoryLevel_iff : s.directoryLevel = true ↔ ∃ i : Slot, s.isChanged i = true := by
  simp [State.directoryLevel, mem_slots]

theorem ne_zero_iff_getLsbD (m : BitVec 5) : m ≠ 0 ↔ m.getLsbD 0 = true ∨ m.getLsbD 1 = true ∨ m.getLsbD 2 = true ∨
    m.getLsbD 3 = true ∨ m.getLsbD 4 = true := by
  constructor
  · intro h
    refine Classical.byContradiction fun hbits => ?_
    simp only [not_or, Bool.not_eq_true] at hbits
    obtain ⟨h0, h1, h2, h3, h4⟩ := hbits
    refine h (BitVec.eq_of_getLsbD_eq fun j hj => ?_)
    refine Eq.trans ?_ (BitVec.getLsbD_zero (w := 5)).symm
    match j, hj with
    | 0, _ => exact h0
    | 1, _ => exact h1
    | 2, _ => exact h2
    | 3, _ => exact h3
    | 4, _ => exact h4
  · rintro h rfl
    simp at h

/-- A source that is set, as a bit-set of its own. -/
theorem getLsbD_source (p : Bool) {k : Nat} (hk : k < 5) (j : Nat) :
    (if p then BitVec.twoPow 5 k else 0).getLsbD j = (p && decide (k = j)) := by
  cases p <;> simp [BitVec.getLsbD_twoPow, hk]

/-- The five sources, each under its own bit. -/
theorem sourceBits_and_ne_zero (a b c d e : Bool) (m : BitVec 5) :
    (((if a then 0x01 else 0) ||| (if b then 0x02 else 0) ||| (if c then 0x04 else 0) ||| (if d then 0x08 else 0) |||
      (if e then 0x10 else 0) : BitVec 5) &&& m ≠ 0) ↔
      m.getLsbD 0 = true ∧ a = true ∨ m.getLsbD 1 = true ∧ b = true ∨ m.getLsbD 2 = true ∧ c = true ∨
        m.getLsbD 3 = true ∧ d = true ∨ m.getLsbD 4 = true ∧ e = true := by
  have hsources : ((if a then 0x01 else 0) ||| (if b then 0x02 else 0) ||| (if c then 0x04 else 0) |||
      (if d then 0x08 else 0) ||| (if e then 0x10 else 0) : BitVec 5) =
      ((if a then BitVec.twoPow 5 0 else 0) ||| (if b then BitVec.twoPow 5 1 else 0) |||
        (if c then BitVec.twoPow 5 2 else 0) ||| (if d then BitVec.twoPow 5 3 else 0) |||
        (if e then BitVec.twoPow 5 4 else 0)) := rfl
  rw [hsources, ne_zero_iff_getLsbD]
  simp only [BitVec.getLsbD_and, BitVec.getLsbD_or, getLsbD_source _ (show 0 < 5 by decide),
    getLsbD_source _ (show 1 < 5 by decide), getLsbD_source _ (show 2 < 5 by decide),
    getLsbD_source _ (show 3 < 5 by decide), getLsbD_source _ (show 4 < 5 by decide)]
  simp [and_comm]

theorem attentionPin_iff : s.attentionPin = true ↔
    s.link.enables.getLsbD 0 = true ∧ s.completionLevel = true ∨
      s.link.enables.getLsbD 1 = true ∧ s.watermarkLevel = true ∨
      s.link.enables.getLsbD 2 = true ∧ s.link.surveyDone = true ∨
      s.link.enables.getLsbD 3 = true ∧ s.link.faultLatch = true ∨
      s.link.enables.getLsbD 4 = true ∧ s.directoryLevel = true := by
  rw [State.attentionPin, decide_eq_true_eq, State.sources]
  exact sourceBits_and_ne_zero _ _ _ _ _ _

theorem completionLevel_iff : s.completionLevel = true ↔ s.pool.completed ≠ [] := by
  simp [State.completionLevel]

theorem pins_of_fullReset (h : FullReset s) : s.alertPin = false ∧ s.attentionPin = false := by
  refine ⟨alertPin_eq_false_iff.2 fun k => ?alert, ?attention⟩
  case alert =>
    rw [State.record, h.records, cell_allCells]
    rfl
  case attention =>
    obtain ⟨_, hdone, hlatch⟩ := h.flags
    have hring : ∀ i, s.ring i = none := fun i => by rw [State.ring, h.rings, cell_allCells]
    have hchanged : ∀ i, s.isChanged i = false := fun i => by rw [State.isChanged, h.changes, cell_allCells]
    rw [← Bool.not_eq_true, attentionPin_iff, completionLevel_iff, watermarkLevel_iff, directoryLevel_iff]
    simp [h.pool, hring, hchanged, hdone, hlatch]

/-! ## The settings of the fault unit -/

theorem ownClearFault_none (h : (s.record k).alert = .none) : ownClearFault (faultKindCode k) s =
    accept (s.setRecord k { s.record k with count := 0, first := none, latest := none }) [] := by
  simp [ownClearFault, h]

theorem ownClearFault_alert (h : (s.record k).alert ≠ .none) :
    ownClearFault (faultKindCode k) s = refuse s .notAcked := by
  rcases (alert_ne_none_iff _).1 h with h | h <;> simp [ownClearFault, h]

theorem ownSetReaction_reaction (r : Reaction) :
    ownSetReaction (faultKindCode k) (reactionCode r) s = accept (s.setReaction k r) [] := by
  simp [ownSetReaction, reactionOf_reactionCode]

theorem ownSetReaction_badValue {b : Byte} (h : reactionOf b = none) :
    ownSetReaction (faultKindCode k) b s = refuse s .badValue := by simp [ownSetReaction, h]

theorem ownSetAckWindow_fits {w : BitVec 16} (h : 10 ≤ w.toNat ∧ w.toNat ≤ 2550 ∧ w.toNat % 10 = 0) :
    ownSetAckWindow w s = accept { s with faults := { s.faults with ackWindow := w.toNat } } [] := if_pos h

theorem ownSetAckWindow_badValue {w : BitVec 16} (h : ¬ (10 ≤ w.toNat ∧ w.toNat ≤ 2550 ∧ w.toNat % 10 = 0)) :
    ownSetAckWindow w s = refuse s .badValue := if_neg h

end Sys2Proof.Machine

namespace Sys2Proof.Proofs

open Sys2Proof Sys2Proof.Machine

/-- Settles O30: an occurrence writes one record and the latch, and the hold it asks for is a hold entry. -/
theorem occurrencesAreRecorded : Obligations.OccurrencesAreRecorded := by
  refine ⟨?occurrence, fun u => ⟨fun h => takeHold_none h, fun h hl => ?held, fun h hl => ?enters⟩⟩
  case occurrence =>
    rintro k slot detail injected s t rfl
    obtain ⟨hcount, hfirst, hlatest⟩ := recordAfter_counts k slot detail injected s
    rw [← occur_record_self] at hcount hfirst hlatest
    refine ⟨hcount, hlatest, fun h => ?first, fun h => ?kept, fun ha hn => occur_alerts hn ha slot detail injected,
      fun h => ?same, occur_link .., occur_holdAsked .., fun l hl => occur_record_ne _ _ _ _ _ hl, ?reactions,
      occur_ackWindow .., occur_start .., occur_settings .., occur_dir .., occur_survey .., occur_line .., occur_sched ..,
      occur_store .., occur_pool .., occur_nodes ..⟩
    case first =>
      rw [hfirst, hlatest, h]
      rfl
    case kept =>
      obtain ⟨o, ho⟩ := Option.ne_none_iff_exists'.1 h
      rw [hfirst, ho]
      rfl
    case same =>
      rw [occur_record_self]
      exact recordAfter_alert_same h
    case reactions => rw [occur_eq]
  case held => exact (takeHold_asked h).trans (holdEntry_held (s := holdGranted u) hl)
  case enters =>
    intro t
    have ht : HoldTaken u t := holdTaken_takeHold h
    have heq : t = _ := (takeHold_asked h).trans (holdEntry_eq (s := holdGranted u) hl)
    obtain ⟨hruns, hnow⟩ := toldToStop_of (s := holdGranted u) (t := t) (congrArg (·.survey) heq) (congrArg (·.link) heq)
    have hline : t.line = u.line.held := congrArg (·.line) heq
    have hdir := congrArg (·.dir) heq
    refine ⟨?line, ?last, congrArg (·.sched) heq, ht.gates hl, congrArg (·.bindings) hdir, congrArg (·.changes) hdir,
      congrArg (·.pool) heq, hruns, hnow, fun hne => ?noSurvey, ht.link, ht.faults, ht.store, ht.start, ht.settings,
      ht.nodes⟩
    case line =>
      rw [hline]
      rfl
    case last =>
      rw [hline]
      simp [LineEngine.held]
    case noSurvey =>
      have hnone : stopSurvey (holdGranted u) = holdGranted u := stopSurvey_none hne
      rw [heq, hnone]
      exact ⟨rfl, rfl⟩

/-- Settles O31: each request by the check of its owner. -/
theorem faultSummaryAndSettings : Obligations.FaultSummaryAndSettings := by
  refine ⟨fun s hs => exec_accepted hs rfl, fun k s hs => ⟨fun b r hb => ⟨exec_refused hs (withKind_none hb s _),
    exec_refused hs (withKind_none hb s _)⟩, fun h => exec_accepted hs (ownClearFault_none h),
    fun h => exec_refused hs (ownClearFault_alert h), fun r => exec_accepted hs (ownSetReaction_reaction r),
    fun b hb => exec_refused hs (ownSetReaction_badValue hb),
    fun w h1 h2 h3 => exec_accepted hs (ownSetAckWindow_fits ⟨h1, h2, h3⟩),
    fun w h => exec_refused hs (ownSetAckWindow_badValue h)⟩⟩

/-- Settles O34: an occurrence like any other, then settling. -/
theorem injectedFaultsAreTaken : Obligations.InjectedFaultsAreTaken := by
  intro k slot detail s hs hn
  refine ⟨fun b hb => exec_refused hs (withKind_none hb s _), fun h => exec_refused hs (ownInjectFault_badSlot h),
    fun h hr hrest => ?rests, fun h hr => ?plain, fun h hr => ?holds⟩
  case rests =>
    have hrests : (occur k slot detail true s).lineRests := by
      simpa [State.lineRests, State.lineAllows, State.wireHeld, State.lowestDue, State.isDue] using hrest
    rw [exec_accepted hs (ownInjectFault_injects h), settle_service (occur_noHold hn hr), service_rests hrests]
  case plain =>
    have hk := kept_service (occur k slot detail true s)
    refine ⟨_, exec_accepted hs (ownInjectFault_injects h), ?_⟩
    rw [settle_service (occur_noHold hn hr)]
    refine ⟨hk.faults, ?link, hk.state.trans (by simp), hk.dir.trans (by simp), hk.store.trans (by simp),
      hk.settings.trans (by simp), hk.start.trans (by simp), hk.nodes.trans (by simp)⟩
    case link => simp [State.replied, hk.link, statusCode]
  case holds =>
    have hasked : (occur k slot detail true s).faults.holdAsked = true := by simp [occur_holdAsked, hr]
    have ht := holdTaken_settle hasked
    refine ⟨_, exec_accepted hs (ownInjectFault_injects h), ht.state, ?record, ?latch, fun hl i => ?gates,
      ht.store.trans (by simp), ht.settings.trans (by simp), ht.start.trans (by simp)⟩
    case record =>
      show cell (settle _).faults.records k.index = _
      rw [ht.faults]
      rfl
    case latch =>
      show (settle (occur k slot detail true s)).link.faultLatch = true
      rw [ht.link, occur_link, hr]
      simp
    case gates => exact (ht.gates (by simpa using hl) i).trans (by simp)

/-- Settles O36: the pins are read off the records, the latches and the levels. -/
theorem pinsShowAlertsAndSources : Obligations.PinsShowAlertsAndSources := by
  intro s
  refine ⟨?alert, fun k slot detail ha hn => ?raised, fun k hs hothers => ?acked, fun _ => rfl, pins_of_fullReset, ?attention⟩
  case alert => simp only [alertPin_iff, alert_ne_none_iff]
  case raised =>
    refine alertPin_iff.2 ⟨k, ?_⟩
    rw [raise_eq, (occur_alerts hn ha slot detail false).1]
    decide
  case acked =>
    have hclear : ∀ t : State, (∀ l, l ≠ k → t.record l = s.record l) → (t.record k).alert = .none →
        t.alertPin = false := by
      intro t ht hk
      refine alertPin_eq_false_iff.2 fun l => ?_
      by_cases hl : l = k
      · rw [hl, hk]
      · rw [ht l hl, hothers l hl]
    cases ha : (s.record k).alert with
    | none => exact ⟨_, exec_refused hs (ownFaultAck_none ha), hclear _ (fun _ _ => rfl) ha⟩
    | pending =>
      refine ⟨_, exec_accepted hs (ownFaultAck_pending ha), hclear _ (fun l hl => record_setRecord_ne _ hl _) ?_⟩
      exact congrArg FaultRecord.alert (record_setRecord_self s k _)
    | escalated =>
      refine ⟨_, exec_accepted hs (ownFaultAck_escalated ha), hclear _ (fun l hl => record_setRecord_ne _ hl _) ?_⟩
      exact congrArg FaultRecord.alert (record_setRecord_self s k _)
  case attention => rw [attentionPin_iff, completionLevel_iff, watermarkLevel_iff, directoryLevel_iff]

end Sys2Proof.Proofs
end
section
/-! PROOFS. Time: what milliseconds that pass do to the records and to the cycle timer, and the expiries at their end. -/

namespace Sys2Proof.Machine

variable {s : State} {k : FaultKind}

/-! ## Deadlines of one record (R148) -/

/-- A record as it stands once its deadline has passed. -/
def escalatedRecord (r : FaultRecord) : FaultRecord := { r with alert := .escalated, deadline := none }

/-- The deadline of a record is reached at a time. -/
def reachedAt (r : FaultRecord) (t : Timestamp) : Prop :=
  ∃ d, r.alert = .pending ∧ r.deadline = some d ∧ deadlineReached d t = true

theorem expired_iff (s : State) (k : FaultKind) : s.expired k = true ↔ reachedAt (s.record k) s.now := by
  unfold State.expired reachedAt
  cases ha : (s.record k).alert <;> cases hd : (s.record k).deadline <;> simp

theorem not_reachedAt_escalated (r : FaultRecord) (t : Timestamp) : ¬ reachedAt (escalatedRecord r) t := by
  rintro ⟨d, h, -⟩
  cases h

theorem deadlineExpires_expired (h : s.expired k = true) : deadlineExpires k s =
    settle (s.setRecord k { s.record k with alert := .escalated, deadline := none }).askHold := by
  rw [deadlineExpires, if_pos h]

theorem deadlineExpires_early (h : s.expired k = false) : deadlineExpires k s = s := by simp [deadlineExpires, h]

/-- R148: a deadline that is reached escalates its kind and holds the line. -/
theorem holdTaken_deadlineExpires (h : s.expired k = true) :
    HoldTaken (s.setRecord k (escalatedRecord (s.record k))).askHold (deadlineExpires k s) := by
  rw [deadlineExpires_expired h]
  exact holdTaken_settle rfl

theorem HoldTaken.record {t u : State} (h : HoldTaken t u) (l : FaultKind) : u.record l = t.record l := by
  rw [State.record, h.faults]
  rfl

theorem record_deadlineExpires_self (h : s.expired k = true) : (deadlineExpires k s).record k = escalatedRecord (s.record k) := by
  rw [(holdTaken_deadlineExpires h).record]
  exact record_setRecord_self s k _

theorem record_deadlineExpires_ne {l : FaultKind} (hl : l ≠ k) : (deadlineExpires k s).record l = s.record l := by
  cases h : s.expired k
  · rw [deadlineExpires_early h]
  · rw [(holdTaken_deadlineExpires h).record]
    exact record_setRecord_ne s hl _

@[simp] theorem deadlineExpires_start (k : FaultKind) (s : State) : (deadlineExpires k s).start = s.start := by
  cases h : s.expired k
  · rw [deadlineExpires_early h]
  · exact (holdTaken_deadlineExpires h).start

/-! ## All the deadlines of a moment -/

theorem deadlines_start : ∀ (ks : List FaultKind) (s : State),
    (ks.foldl (fun u k => deadlineExpires k u) s).start = s.start
  | [], _ => rfl
  | k :: ks, s => (deadlines_start ks _).trans (deadlineExpires_start k s)

theorem record_deadlines_early {l : FaultKind} : ∀ (ks : List FaultKind) {s : State}, s.expired l = false →
    (ks.foldl (fun u k => deadlineExpires k u) s).record l = s.record l
  | [], _, _ => rfl
  | k :: ks, s, h => by
    have hsame : (deadlineExpires k s).record l = s.record l := by
      by_cases hl : l = k
      · rw [← hl, deadlineExpires_early h]
      · exact record_deadlineExpires_ne hl
    have hearly : (deadlineExpires k s).expired l = false := by
      rw [← h, State.expired, State.expired, hsame, State.now, State.now, deadlineExpires_start]
    exact (record_deadlines_early ks hearly).trans hsame

theorem record_deadlines_expired {l : FaultKind} {ks : List FaultKind} (hmem : l ∈ ks) (h : s.expired l = true) :
    (ks.foldl (fun u k => deadlineExpires k u) s).record l = escalatedRecord (s.record l) := by
  induction ks generalizing s with
  | nil => cases hmem
  | cons k ks ih =>
    rw [List.foldl_cons]
    by_cases hl : l = k
    · have hrecord : (deadlineExpires k s).record l = escalatedRecord (s.record l) :=
        hl ▸ record_deadlineExpires_self (hl ▸ h)
      have hearly : (deadlineExpires k s).expired l = false := by
        rw [← Bool.not_eq_true, expired_iff, hrecord]
        exact not_reachedAt_escalated _ _
      exact (record_deadlines_early ks hearly).trans hrecord
    · have hsame := record_deadlineExpires_ne (s := s) hl
      have hexpired : (deadlineExpires k s).expired l = true := by
        rw [← h, State.expired, State.expired, hsame, State.now, State.now, deadlineExpires_start]
      rw [ih ((List.mem_cons.1 hmem).resolve_left hl) hexpired, hsame]

theorem deadlines_none : ∀ (ks : List FaultKind) {s : State}, (∀ k, s.expired k = false) →
    ks.foldl (fun u k => deadlineExpires k u) s = s
  | [], _, _ => rfl
  | k :: ks, s, h => by
    rw [List.foldl_cons, deadlineExpires_early (h k)]
    exact deadlines_none ks h

/-! ## A cycle that ends (R74, R75) -/

@[simp] theorem settle_start (s : State) : (settle s).start = s.start := by
  rw [settle, (kept_service _).start]
  unfold takeHold
  split
  · exact holdEntry_start
  · rfl

theorem settle_records (s : State) : (settle s).faults.records = s.faults.records := by
  rw [settle, service_faults]
  unfold takeHold
  split
  · rw [holdEntry_faults]
  · rfl

theorem countLate_keeps (s : State) : (countLate s).start = s.start ∧ (countLate s).faults = s.faults := by
  unfold countLate
  split <;> exact ⟨rfl, rfl⟩

@[simp] theorem cycleExpires_start (s : State) : (cycleExpires s).start = s.start := by
  unfold cycleExpires
  split
  · rw [settle_start]
    exact (countLate_keeps s).1
  · rfl

@[simp] theorem record_cycleExpires (s : State) (l : FaultKind) : (cycleExpires s).record l = s.record l := by
  unfold cycleExpires
  split
  · rw [State.record, settle_records]
    exact congrArg (fun f => cell f.records l.index) (countLate_keeps s).2
  · rfl

/-! ## Milliseconds that pass -/

@[simp] theorem settleDue_start (s : State) : (settleDue s).start = s.start := by
  rw [settleDue, cycleExpires_start, deadlines_start]

theorem record_settleDue_early {l : FaultKind} (h : ¬ reachedAt (s.record l) s.now) :
    (settleDue s).record l = s.record l := by
  rw [settleDue, record_cycleExpires]
  exact record_deadlines_early _ (by rwa [← Bool.not_eq_true, expired_iff])

theorem record_settleDue_expired {l : FaultKind} (h : reachedAt (s.record l) s.now) :
    (settleDue s).record l = escalatedRecord (s.record l) := by
  rw [settleDue, record_cycleExpires]
  exact record_deadlines_expired (mem_faultKinds l) ((expired_iff s l).2 h)

theorem timestamp_add_succ (t : Timestamp) (n : Nat) : t + 1 + BitVec.ofNat 32 n = t + BitVec.ofNat 32 (n + 1) := by
  rw [Nat.add_comm n 1, BitVec.ofNat_add, BitVec.add_assoc]
  rfl

/-- The state after one millisecond. -/
def afterOne (s : State) : State := (settleDue s).passTime 1

theorem afterOne_start (s : State) : (afterOne s).start = { s.start with clock := s.start.clock + 1 } := by
  show ({ (settleDue s).start with clock := (settleDue s).start.clock + BitVec.ofNat 32 1 } : StartState) = _
  rw [settleDue_start]
  rfl

theorem afterOne_now (s : State) : (afterOne s).now = s.now + 1 := by rw [State.now, afterOne_start]; rfl

theorem record_afterOne_early {l : FaultKind} (h : ¬ reachedAt (s.record l) s.now) :
    (afterOne s).record l = s.record l := by rw [afterOne, passTime_record, record_settleDue_early h]

theorem record_afterOne_expired {l : FaultKind} (h : reachedAt (s.record l) s.now) :
    (afterOne s).record l = escalatedRecord (s.record l) := by
  rw [afterOne, passTime_record, record_settleDue_expired h]

theorem elapse_succ (n : Nat) (s : State) : elapse (n + 1) s = elapse n (afterOne s) := rfl

theorem elapse_start (n : Nat) (s : State) :
    (elapse n s).start = { s.start with clock := s.start.clock + BitVec.ofNat 32 n } := by
  induction n generalizing s with
  | zero => simp [elapse]
  | succ n ih => rw [elapse_succ, ih, afterOne_start, timestamp_add_succ]

/-- A deadline that is reached in none of the milliseconds leaves its record alone. -/
theorem record_elapse_early {l : FaultKind} {n : Nat}
    (h : ∀ j < n, ¬ reachedAt (s.record l) (s.now + BitVec.ofNat 32 j)) : (elapse n s).record l = s.record l := by
  induction n generalizing s with
  | zero => rfl
  | succ n ih =>
    have hnow : ¬ reachedAt (s.record l) s.now := by simpa using h 0 (Nat.succ_pos n)
    have hone : (afterOne s).record l = s.record l := record_afterOne_early hnow
    rw [elapse_succ, ih fun j hj => ?_, hone]
    rw [hone, afterOne_now, timestamp_add_succ]
    exact h (j + 1) (Nat.succ_lt_succ hj)

/-- A deadline that is reached in one of the milliseconds escalates its record. -/
theorem record_elapse_expired {l : FaultKind} {n : Nat}
    (h : ∃ j < n, reachedAt (s.record l) (s.now + BitVec.ofNat 32 j)) :
    (elapse n s).record l = escalatedRecord (s.record l) := by
  induction n generalizing s with
  | zero =>
    obtain ⟨j, hj, -⟩ := h
    exact absurd hj (Nat.not_lt_zero j)
  | succ n ih =>
    rw [elapse_succ]
    by_cases hnow : reachedAt (s.record l) s.now
    · have hone : (afterOne s).record l = escalatedRecord (s.record l) := record_afterOne_expired hnow
      rw [record_elapse_early fun j _ => ?_, hone]
      rw [hone]
      exact not_reachedAt_escalated _ _
    · have hone : (afterOne s).record l = s.record l := record_afterOne_early hnow
      obtain ⟨j, hj, hr⟩ := h
      obtain ⟨i, rfl⟩ : ∃ i, j = i + 1 :=
        Nat.exists_eq_succ_of_ne_zero fun h0 => hnow (by simpa [h0] using hr)
      rw [ih ⟨i, Nat.lt_of_succ_lt_succ hj, ?_⟩, hone]
      rw [hone, afterOne_now, timestamp_add_succ]
      exact hr

/-! ## Time until the cycle ends -/

theorem idles_idles (l : LinkState) (a b : Nat) : (l.idles a).idles b = l.idles (a + b) := by
  simp only [LinkState.idles]
  congr 2
  rw [Nat.add_mul, Nat.sub_sub]

theorem passTime_passTime (s : State) (a b : Nat) : (s.passTime a).passTime b = s.passTime (a + b) := by
  have hclock : s.start.clock + BitVec.ofNat 32 a + BitVec.ofNat 32 b = s.start.clock + BitVec.ofNat 32 (a + b) := by
    rw [BitVec.ofNat_add, BitVec.add_assoc]
  have hcycle : ∀ c : CycleTimer, ({ c with remaining := c.remaining - a - b } : CycleTimer) =
      { c with remaining := c.remaining - (a + b) } := fun c => by rw [Nat.sub_sub]
  simp only [State.passTime, hclock, idles_idles, Option.map_map, Function.comp_def, hcycle]

theorem passTime_expired (s : State) (n : Nat) (h : ∀ k : FaultKind, (s.record k).alert ≠ .pending) (k : FaultKind) :
    (s.passTime n).expired k = false := by
  rw [← Bool.not_eq_true, expired_iff]
  rintro ⟨d, hp, -⟩
  exact h k hp

/-- With no kind PENDING nothing happens until the cycle timer has run out. -/
theorem elapse_cycle {c : CycleTimer} (hp : ∀ k : FaultKind, (s.record k).alert ≠ .pending)
    (hc : s.sched.cycle = some c) {n a : Nat} (h : a + n ≤ c.remaining) : elapse n (s.passTime a) = s.passTime (a + n) := by
  induction n generalizing a with
  | zero => rfl
  | succ n ih =>
    have hleft : (s.passTime a).sched.cycle = some { c with remaining := c.remaining - a } := by
      simp [State.passTime, hc]
    have hrest : c.remaining - a ≠ 0 := by omega
    have hidle : settleDue (s.passTime a) = s.passTime a := by
      rw [settleDue, deadlines_none _ (passTime_expired s a hp)]
      simp [cycleExpires, cycleDue, hleft, hrest]
    rw [elapse, hidle, passTime_passTime, ih (by omega), Nat.add_assoc, Nat.add_comm 1 n]

/-! ## The deadline of a commanded expiry -/

/-- A deadline that lies ahead is not reached in the milliseconds before it. -/
theorem not_deadlineReached_before {d now : Timestamp} (h : deadlineReached d now = false) {j : Nat}
    (hj : j < (d - now).toNat) : deadlineReached d (now + BitVec.ofNat 32 j) = false := by
  simp only [deadlineReached, decide_eq_false_iff_not, Nat.not_lt] at h ⊢
  bv_omega

theorem timestamp_reaches (d now : Timestamp) : now + BitVec.ofNat 32 (d - now).toNat = d := by
  rw [BitVec.ofNat_toNat, BitVec.setWidth_eq]
  bv_omega

theorem deadlineReached_self (d : Timestamp) : deadlineReached d d = true := by simp [deadlineReached]

theorem deadlineLeft_ahead {d : Timestamp} (hp : (s.record k).alert = .pending) (hd : (s.record k).deadline = some d)
    (h : deadlineReached d s.now = false) : deadlineLeft k s = (d - s.now).toNat := by
  simp [deadlineLeft, hp, hd, h]

theorem exec_alertDeadlineExpiry_ahead {d : Timestamp} (hr : s.start.phase = .running)
    (hp : (s.record k).alert = .pending) (hd : (s.record k).deadline = some d) (h : deadlineReached d s.now = false) :
    exec (.alertDeadlineExpiry k) s = .next (deadlineExpires k (elapse (d - s.now).toNat s)) := by
  show Host.Outcome.next (whenLive (fun u => deadlineExpires k (reachDeadline k u)) s) = _
  rw [whenLive_running _ hr, reachDeadline, deadlineLeft_ahead hp hd h]

/-- A commanded expiry comes when its deadline is reached. -/
theorem record_elapse_ahead {d : Timestamp} (hp : (s.record k).alert = .pending) (hd : (s.record k).deadline = some d)
    (h : deadlineReached d s.now = false) :
    (elapse (d - s.now).toNat s).record k = s.record k ∧ (elapse (d - s.now).toNat s).expired k = true ∧
      (elapse (d - s.now).toNat s).start = { s.start with clock := d } := by
  have hrecord : (elapse (d - s.now).toNat s).record k = s.record k := by
    refine record_elapse_early ?_
    rintro j hj ⟨e, -, he, hreach⟩
    rw [hd, Option.some.injEq] at he
    rw [← he, not_deadlineReached_before h hj] at hreach
    cases hreach
  have hstart : (elapse (d - s.now).toNat s).start = { s.start with clock := d } := by
    rw [elapse_start]
    exact congrArg (fun c => { s.start with clock := c }) (timestamp_reaches d s.now)
  refine ⟨hrecord, (expired_iff _ _).2 ⟨d, hrecord ▸ hp, hrecord ▸ hd, ?_⟩, hstart⟩
  rw [State.now, hstart]
  exact deadlineReached_self d

/-! ## The cycle that a commanded expiry ends -/

/-- The state that a cycle's end leaves to settle. -/
def cycleTurned (s : State) (n : Nat) : State := cycleStart (countLate (s.passTime n))

theorem countLate_eq (s : State) : countLate s =
    { s with sched := { s.sched with lateCycles := if s.lowestDue.isSome then satAdd s.sched.lateCycles 1 else s.sched.lateCycles } } := by
  unfold countLate
  split <;> rfl

theorem exec_cycleTimerExpiry_running {c : CycleTimer} (hr : s.start.phase = .running)
    (hp : ∀ k : FaultKind, (s.record k).alert ≠ .pending) (hc : s.sched.cycle = some c) (hl : s.line.state = .running) :
    exec .cycleTimerExpiry s = .next (settle (cycleTurned s c.remaining)) := by
  have hleft : cycleLeft s = c.remaining := by simp [cycleLeft, hc, hl]
  have helapse : elapse c.remaining s = s.passTime c.remaining := by
    have h := elapse_cycle hp hc (n := c.remaining) (a := 0) (by omega)
    rwa [passTime_zero, Nat.zero_add] at h
  have hdue : cycleDue (s.passTime c.remaining) = true := by simp [cycleDue, State.passTime, hc, hl]
  show Host.Outcome.next (whenLive (fun u => cycleExpires (cycleRunsOut u)) s) = _
  rw [whenLive_running _ hr, cycleRunsOut, hleft, helapse, cycleExpires, if_pos hdue]
  rfl

theorem lowestDue_eq_none (h : ∀ i : Slot, s.isDue i = false) : s.lowestDue = none :=
  List.find?_eq_none.2 fun i _ => by simp [h i]

/-- A search through the slots finds the lowest one of its kind. -/
theorem find_slots {p : Slot → Bool} {i : Slot} (h : p i = true) :
    ∃ j : Slot, slots.find? p = some j ∧ p j = true ∧ j ≤ i := by
  obtain ⟨j, hj⟩ := Option.isSome_iff_exists.1
    (List.find?_isSome.2 ⟨i, mem_slots i, h⟩ : (slots.find? p).isSome = true)
  refine ⟨j, hj, List.find?_some hj, ?_⟩
  obtain ⟨_, front, back, hsplit, hfront⟩ := List.find?_eq_some_iff_append.1 hj
  have hmem : i ∈ front ++ j :: back := hsplit ▸ mem_slots i
  have hsorted : (front ++ j :: back).Pairwise (· < ·) := hsplit ▸ slots_pairwise_lt
  rcases List.mem_append.1 hmem with hf | hb
  · have := hfront i hf
    rw [h] at this
    cases this
  · rcases List.mem_cons.1 hb with rfl | hb
    · exact Nat.le_refl _
    · exact Nat.le_of_lt ((List.pairwise_cons.1 (List.pairwise_append.1 hsorted).2.1).1 i hb)

/-- The lowest slot that is due. -/
theorem lowestDue_eq_some {i : Slot} (h : s.isDue i = true) (hmin : ∀ j : Slot, j < i → s.isDue j = false) :
    s.lowestDue = some i := by
  obtain ⟨j, hj, hdue, hle⟩ := find_slots h
  have hij : j = i := by
    refine Fin.le_antisymm hle (Fin.not_lt.1 fun hlt => ?_)
    rw [hmin j hlt] at hdue
    cases hdue
  exact hij ▸ hj

theorem arbitrate_rests {n : Nat} (hd : s.lowestDue = none) (hq : s.pool.queued = []) : arbitrate n s = s := by
  cases n <;> simp [arbitrate, hd, hq, grantChoice]

/-- R77: a poll is granted where no request waits, or where the last grant was the pool's. -/
theorem arbitrate_poll {n : Nat} {i : Slot} (hd : s.lowestDue = some i)
    (hq : s.pool.queued = [] ∨ s.line.lastGrant = .pool) : arbitrate (n + 1) s = grantPoll i s := by
  cases hqueue : s.pool.queued with
  | nil => simp [arbitrate, hd, hqueue, grantChoice]
  | cons r rest =>
    have hlast : s.line.lastGrant = .pool := hq.resolve_left (by simp [hqueue])
    simp [arbitrate, hd, hqueue, grantChoice, hlast]

/-- R77: a request is granted where no slot is due, or where the last grant was a poll's. -/
theorem arbitrate_pool {n : Nat} {r : PoolRequest} {rest : List PoolRequest} (hq : s.pool.queued = r :: rest)
    (hd : s.lowestDue = none ∨ s.line.lastGrant = .poll) (hf : (s.entry r.slot).state ≠ .free)
    (hl : (s.entry r.slot).state ≠ .lost) : arbitrate (n + 1) s = startRequest r rest s := by
  have hbusy : (startRequest r rest s).line.txn.isSome = true := by
    rw [startRequest_present hf hl]
    rfl
  cases hdue : s.lowestDue with
  | none => simp [arbitrate, hdue, hq, grantChoice, hbusy]
  | some i =>
    have hlast : s.line.lastGrant = .poll := hd.resolve_left (by simp [hdue])
    simp [arbitrate, hdue, hq, grantChoice, hlast, hbusy]

theorem cycleTurned_keeps (s : State) (n : Nat) : (cycleTurned s n).settings = s.settings ∧
    (cycleTurned s n).link = s.link.idles n ∧ (cycleTurned s n).dir = s.dir ∧ (cycleTurned s n).survey = s.survey ∧
    (cycleTurned s n).line = s.line ∧ (cycleTurned s n).store = s.store ∧ (cycleTurned s n).pool = s.pool ∧
    (cycleTurned s n).faults = s.faults ∧ (cycleTurned s n).nodes = s.nodes := by
  rw [cycleTurned, countLate_eq]
  exact ⟨rfl, rfl, rfl, rfl, rfl, rfl, rfl, rfl, rfl⟩

theorem cycleTurned_start (s : State) (n : Nat) :
    (cycleTurned s n).start = { s.start with clock := s.start.clock + BitVec.ofNat 32 n } := by
  rw [cycleTurned, countLate_eq]
  rfl

theorem isDue_cycleTurned (s : State) (n : Nat) (i : Slot) :
    (cycleTurned s n).isDue i = (s.isDue i || decide ((s.entry i).state = .active)) := by
  rw [cycleTurned, isDue_cycleStart, countLate_eq]
  rfl

end Sys2Proof.Machine

namespace Sys2Proof.Proofs

open Sys2Proof Sys2Proof.Machine

/-- Settles O35: the time until an expiry passes, millisecond by millisecond, and then the expiry. -/
theorem deadlinesAndCyclesExpire : Obligations.DeadlinesAndCyclesExpire := by
  refine ⟨fun k d s hr hp hd => ⟨fun h => ?reached, fun h => ?ahead⟩, fun s c hr hn hp hc hl => ?cycle⟩
  case reached =>
    have hexpired : s.expired k = true := (expired_iff s k).2 ⟨d, hp, hd, h⟩
    have ht := holdTaken_deadlineExpires hexpired
    have hrecord := record_deadlineExpires_self hexpired
    refine ⟨_, exec_alertDeadlineExpiry hr hexpired, hrecord, ht.state, ?pin, ?latch,
      fun l hl => record_deadlineExpires_ne hl, ht.gates, ht.store, ht.settings, ht.start, ht.nodes⟩
    case pin => exact alertPin_iff.2 ⟨k, by rw [hrecord]; exact nofun⟩
    case latch =>
      rw [ht.link]
      rfl
  case ahead =>
    obtain ⟨hrecord, hexpired, hstart⟩ := record_elapse_ahead hp hd h
    have ht := holdTaken_deadlineExpires hexpired
    refine ⟨_, exec_alertDeadlineExpiry_ahead hr hp hd h, ?record, ht.state, ht.start.trans hstart,
      fun l hl => ⟨fun e he1 he2 hj => ?escalated, fun hnever => ?same⟩⟩
    case record =>
      rw [record_deadlineExpires_self hexpired, hrecord]
      rfl
    case escalated =>
      obtain ⟨j, hlt, hreach⟩ := hj
      exact (record_deadlineExpires_ne hl).trans (record_elapse_expired ⟨j, hlt, e, he1, he2, hreach⟩)
    case same =>
      refine (record_deadlineExpires_ne hl).trans (record_elapse_early ?_)
      rintro j hj ⟨e, he1, he2, hreach⟩
      rw [hnever e he1 he2 j hj] at hreach
      cases hreach
  case cycle =>
    obtain ⟨hsettings, hlink, hdir, hsurvey, hline, hstore, hpool, hfaults, hnodes⟩ := cycleTurned_keeps s c.remaining
    have hexec : exec .cycleTimerExpiry s = .next (service (cycleTurned s c.remaining)) := by
      rw [exec_cycleTimerExpiry_running hr hp hc hl, settle_service]
      rw [State.noHoldAsked, hfaults]
      exact hn
    have hallows : (cycleTurned s c.remaining).lineAllows = s.lineAllows := by
      rw [State.lineAllows, State.wireHeld, hline]
      rfl
    refine ⟨cycleTurned s c.remaining, isDue_cycleTurned s _, ?timer, ?late, ?period, ?limit, cycleTurned_start s _,
      hsettings, hlink, hdir, hsurvey, hline, hstore, hpool, hfaults, hnodes, fun ha => ?holds,
      fun ha ho hk hf => ⟨fun hq hd => ?rests, fun i hi hmin hq => ?poll, fun r rest hq hd he1 he2 => ?pool⟩⟩
    case timer => rw [cycleTurned, countLate_eq]; rfl
    case late => rw [cycleTurned, countLate_eq]; rfl
    case period => rw [cycleTurned, countLate_eq]; rfl
    case limit => rw [cycleTurned, countLate_eq]; rfl
    case holds => rw [hexec, service_lineHolds (hallows.trans ha)]
    all_goals
      have hserve := service_running (s := cycleTurned s c.remaining) (hallows.trans ha) (hline ▸ ho) (hline ▸ hl)
        (hline ▸ hk) (hpool ▸ hf)
    case rests => rw [hexec, hserve, arbitrate_rests (lowestDue_eq_none hd) (hpool ▸ hq)]
    case poll =>
      rw [hexec, hserve, arbitrate_poll (lowestDue_eq_some hi hmin) (by rw [hpool, hline]; exact hq)]
      have hentry : (cycleTurned s c.remaining).entry i = s.entry i := by rw [State.entry, hdir]; rfl
      rw [grantPoll, hentry]
      rfl
    case pool =>
      have hentry : (cycleTurned s c.remaining).entry r.slot = s.entry r.slot := by rw [State.entry, hdir]; rfl
      have hqueue : (cycleTurned s c.remaining).pool.queued = r :: rest := hpool ▸ hq
      rw [hexec, hserve, arbitrate_pool hqueue (hd.imp lowestDue_eq_none fun h => hline ▸ h) (hentry ▸ he1) (hentry ▸ he2),
        startRequest_present (hentry ▸ he1) (hentry ▸ he2), hpool]
      rfl

end Sys2Proof.Proofs
end
section
/-! PROOFS. The line's events: one equation for each, with the outcome that it hands over and the settling that follows. -/

namespace Sys2Proof.Machine

variable {s : State} {x : Transaction} {i : Slot}

/-! ## What an outcome leaves of the line engine -/

@[simp] theorem raise_line (k : FaultKind) (slot detail : Byte) (s : State) : (raise k slot detail s).line = s.line :=
  occur_line ..

@[simp] theorem appendTo_line (i : Slot) (r : Ring) (rec : ReportRecord) (s : State) : (appendTo i r rec s).line = s.line := by
  unfold appendTo
  split
  · rfl
  · split
    · exact raise_line ..
    · exact raise_line ..

@[simp] theorem routeRecord_line (i : Slot) (rec : ReportRecord) (s : State) : (routeRecord i rec s).line = s.line := by
  unfold routeRecord
  split
  · exact appendTo_line ..
  · rfl

@[simp] theorem takeReport_line (i : Slot) (sequence : Byte) (alarm : Bool) (payload : List Byte) (s : State) :
    (takeReport i sequence alarm payload s).line = s.line := by
  unfold takeReport
  dsimp only
  rw [routeRecord_line]
  split
  · exact raise_line ..
  · rfl

@[simp] theorem raiseAlarm_line (i : Slot) (sequence : Byte) (alarm : Bool) (s : State) :
    (raiseAlarm i sequence alarm s).line = s.line := by
  unfold raiseAlarm
  split
  · exact raise_line ..
  · rfl

@[simp] theorem goodAnswer_line (i : Slot) (status sequence : Byte) (payload : List Byte) (s : State) :
    (goodAnswer i status sequence payload s).line = s.line := by
  unfold goodAnswer
  dsimp only
  split
  · split
    · exact raiseAlarm_line ..
    · exact (takeReport_line ..).trans (raiseAlarm_line ..)
  · exact raiseAlarm_line ..

@[simp] theorem countMiss_line (i : Slot) (s : State) : (countMiss i s).line = s.line := by
  unfold countMiss
  dsimp only
  split
  · exact raise_line ..
  · exact (raise_line ..).trans (raise_line ..)

@[simp] theorem takePollOutcome_line (i : Slot) (o : LineOutcome) (s : State) : (takePollOutcome i o s).line = s.line := by
  unfold takePollOutcome
  split
  · exact goodAnswer_line ..
  · exact goodAnswer_line ..
  · exact countMiss_line ..
  · exact countMiss_line ..
  · exact raise_line ..
  · exact raise_line ..
  · rfl

@[simp] theorem completeRequest_line (r : PoolRequest) (o : PoolOutcome) (data : List Byte) (s : State) :
    (completeRequest r o data s).line = s.line := by
  unfold completeRequest completionClaim
  split
  · split <;> rfl
  · rfl
  · rfl

@[simp] theorem takePoolOutcome_line (o : LineOutcome) (s : State) : (takePoolOutcome o s).line = s.line := by
  unfold takePoolOutcome
  split
  · rfl
  · split
    · split <;> exact completeRequest_line ..
    · split
      · rfl
      · exact completeRequest_line ..
    · split
      · rfl
      · exact completeRequest_line ..

@[simp] theorem seatClaim_line (r : Round) (i : Slot) (w : Identity) (s : State) : (seatClaim r i w s).line = s.line := by
  unfold seatClaim
  dsimp only
  split
  · rfl
  · split
    · rfl
    · exact raise_line ..

@[simp] theorem takeSurveyOutcome_line (o : LineOutcome) (s : State) : (takeSurveyOutcome o s).line = s.line := by
  unfold takeSurveyOutcome
  split
  · rfl
  · split
    · unfold takeSeatOutcome
      split
      · split
        · exact seatClaim_line ..
        · rfl
      · split <;> rfl
    · rfl
    · unfold takeDescribeOutcome
      split
      · rfl
      · split
        · rfl
        · split <;> rfl
    all_goals rfl

/-- An outcome that is handed over leaves the line engine alone. -/
@[simp] theorem deliver_line (x : Transaction) (o : LineOutcome) (s : State) : (deliver x o s).line = s.line := by
  unfold deliver
  split
  · rfl
  · split
    · exact takePollOutcome_line ..
    · exact takePoolOutcome_line ..
    · exact takeSurveyOutcome_line ..
    · rfl

@[simp] theorem takeBroadcastOutcome_line (sent : Bool) (s : State) : (takeBroadcastOutcome sent s).line = s.line := by
  unfold takeBroadcastOutcome
  split
  · rfl
  · split
    · split <;> rfl
    all_goals rfl

/-! ## Who takes the outcome -/

theorem deliver_aborted (h : x.aborted.isSome = true) (o : LineOutcome) (s : State) : deliver x o s = s := if_pos h

theorem deliver_poll (ha : x.aborted = none) (hu : x.user = .poll) (ht : x.frame.target = some i) (o : LineOutcome)
    (s : State) : deliver x o s = takePollOutcome i o s := by simp [deliver, ha, hu, ht]

theorem deliver_pool (ha : x.aborted = none) (hu : x.user = .pool) (ht : x.frame.target = some i) (o : LineOutcome)
    (s : State) : deliver x o s = takePoolOutcome o s := by simp [deliver, ha, hu, ht]

theorem deliver_survey (ha : x.aborted = none) (hu : x.user = .survey) (ht : x.frame.target = some i) (o : LineOutcome)
    (s : State) : deliver x o s = takeSurveyOutcome o s := by simp [deliver, ha, hu, ht]

theorem frameAddress_target {f : LineFrame} (h : f.target = some i) : frameAddress f = slotByte i := by
  simp [frameAddress, h]

theorem frameAddress_broadcast {f : LineFrame} (h : f.target = none) : frameAddress f = 0 := by simp [frameAddress, h]

theorem raiseForFrame_target (k : FaultKind) {f : LineFrame} (h : f.target = some i) (s : State) :
    raiseForFrame k f s = raise k (slotByte i) (commandCode f.command) s := by
  rw [raiseForFrame, frameAddress_target h]

/-! ## Settling with the transaction still on the line -/

theorem takeHold_txn (h : s.line.txn.isSome = true) : (takeHold s).line.txn.isSome = true := by
  unfold takeHold
  split
  · by_cases hl : s.line.state = .held
    · rw [holdEntry_held (s := { s with faults := { s.faults with holdAsked := false } }) hl]
      exact h
    · rw [holdEntry_eq (s := { s with faults := { s.faults with holdAsked := false } }) hl]
      simpa [LineEngine.held] using h
  · exact h

/-- No hold is taken where none is asked for and the fault table stays as it was. -/
theorem takeHold_kept (hn : s.noHoldAsked) (t : State) (h : t.faults = s.faults) : takeHold t = t :=
  takeHold_none ((congrArg (·.holdAsked) h).trans hn)

/-- R32: while the transaction stands nothing begins; only a hold that is asked for is taken. -/
theorem settle_onLine (h : s.line.txn.isSome = true) : settle s = takeHold s := by
  rw [settle, service_busy (takeHold_txn h)]

/-- The transaction in SPACE. -/
def spaced (x : Transaction) (s : State) : State := s.setTxn (some { x with phase := .space })

@[simp] theorem spaced_txn (x : Transaction) (s : State) : (spaced x s).line.txn = some { x with phase := .space } := rfl

theorem toPhase_space (x : Transaction) (s : State) : toPhase .space x s = spaced x s := rfl

theorem settle_ofLine {t : State} (h : t.line = (spaced x s).line) : settle t = takeHold t :=
  settle_onLine (by rw [h]; rfl)

/-! ## The events (R32, R44) -/

theorem onPhase_eq {p : LinePhase} (f : Transaction → State → State) (hx : s.line.txn = some x) (hp : x.phase = p) :
    onPhase p f s = f x s := by simp [onPhase, hx, hp]

section
variable (hr : s.start.phase = .running) (hx : s.line.txn = some x)

include hr hx

theorem exec_commandSent (hp : x.phase = .send) (ht : x.frame.target.isSome = true) (missed : List Nat) :
    exec (.commandSent missed) s = .next (frameBoundary (toPhase .wait x (s.nodesHear x.frame missed))) := by
  show Host.Outcome.next (whenLive _ s) = _
  rw [whenLive_running _ hr, commandEnds, onPhase_eq _ hx hp, if_pos ht]

theorem exec_answerStart (hp : x.phase = .wait) : exec .answerStart s = .next (toPhase .receive x s) := by
  show Host.Outcome.next (whenLive _ s) = _
  rw [whenLive_running _ hr, answerStarts, onPhase_eq _ hx hp]

theorem exec_broadcast_call (hp : x.phase = .send) (ht : x.frame.target = none) (hc : x.frame.command = .call)
    (missed : List Nat) : exec (.broadcastFrameEnd missed) s =
      .next ((s.nodesHear x.frame missed).setTxn (some { x with phase := .contest, contestBroken := s.line.stuck })) := by
  show Host.Outcome.next (whenLive _ s) = _
  rw [whenLive_running _ hr, broadcastEnds, onPhase_eq _ hx hp, if_neg (by simp [ht])]
  exact congrArg Host.Outcome.next (if_pos hc)

theorem exec_broadcast_other (hp : x.phase = .send) (ht : x.frame.target = none) (hc : x.frame.command ≠ .call)
    (missed : List Nat) : exec (.broadcastFrameEnd missed) s =
      .next
        (if x.user = .survey then
          takeBroadcastOutcome true (frameBoundary (spaced x (s.nodesHear x.frame missed)))
        else frameBoundary (spaced x (s.nodesHear x.frame missed))) := by
  show Host.Outcome.next (whenLive _ s) = _
  rw [whenLive_running _ hr, broadcastEnds, onPhase_eq _ hx hp, if_neg (by simp [ht])]
  exact congrArg Host.Outcome.next (if_neg hc)

theorem exec_answerWindowExpiry (hp : x.phase = .wait) :
    exec .answerWindowExpiry s = .next (takeHold (deliver x .silent (spaced x s))) := by
  show Host.Outcome.next (whenLive _ s) = _
  rw [whenLive_running _ hr, windowCloses, onPhase_eq _ hx hp, toPhase_space, settle_ofLine (deliver_line ..)]

theorem exec_answerReceived_good {chars data : List Byte} {status : Byte} (hp : x.phase = .receive)
    (ha : x.aborted = none) (hj : judgeAnswer x.frame.command (expectedLength x s) chars = .good status data) :
    exec (.answerReceived chars) s =
      .next (takeHold (deliver x (.good status data) (frameBoundary (spaced x s.nodesLeave)))) := by
  have hline := (deliver_line x (.good status data) _).trans (frameBoundary_line (spaced x s.nodesLeave))
  show Host.Outcome.next (whenLive _ s) = _
  rw [whenLive_running _ hr, answerEnds, onPhase_eq _ hx hp]
  simp only [ha, hj, Option.isSome_none, Bool.false_eq_true, if_false, toPhase_space]
  rw [settle_ofLine hline]

theorem exec_answerReceived_broken {chars : List Byte} (hp : x.phase = .receive) (ha : x.aborted = none)
    (hj : judgeAnswer x.frame.command (expectedLength x s) chars = .broken) :
    exec (.answerReceived chars) s =
      .next (takeHold (deliver x .broken (raiseForFrame .badCheck x.frame (frameBoundary (spaced x s.nodesLeave))))) := by
  have hline : (deliver x .broken (raiseForFrame .badCheck x.frame (frameBoundary (spaced x s.nodesLeave)))).line =
      (spaced x s.nodesLeave).line := by simp [raiseForFrame]
  show Host.Outcome.next (whenLive _ s) = _
  rw [whenLive_running _ hr, answerEnds, onPhase_eq _ hx hp]
  simp only [ha, hj, Option.isSome_none, Bool.false_eq_true, if_false, toPhase_space]
  rw [settle_ofLine hline]

theorem exec_answerReceived_aborted (hp : x.phase = .receive) (ha : x.aborted.isSome = true) (chars : List Byte) :
    exec (.answerReceived chars) s = .next (takeHold (frameBoundary (spaced x s.nodesLeave))) := by
  show Host.Outcome.next (whenLive _ s) = _
  rw [whenLive_running _ hr, answerEnds, onPhase_eq _ hx hp]
  simp only [ha, if_true, toPhase_space]
  rw [settle_ofLine (frameBoundary_line _)]

theorem exec_twentyFirst (hp : x.phase = .receive) (ha : x.aborted = none) :
    exec .twentyFirstCharacter s =
      .next (takeHold (deliver x .broken (raiseForFrame .badCheck x.frame (frameBoundary (spaced x s))))) := by
  have hline : (deliver x .broken (raiseForFrame .badCheck x.frame (frameBoundary (spaced x s)))).line =
      (spaced x s).line := by simp [raiseForFrame]
  show Host.Outcome.next (whenLive _ s) = _
  rw [whenLive_running _ hr, answerOverruns, onPhase_eq _ hx hp]
  simp only [ha, Option.isSome_none, Bool.false_eq_true, if_false, toPhase_space]
  rw [settle_ofLine hline]

theorem exec_twentyFirst_aborted (hp : x.phase = .receive) (ha : x.aborted.isSome = true) :
    exec .twentyFirstCharacter s = .next s := by
  show Host.Outcome.next (whenLive _ s) = _
  rw [whenLive_running _ hr, answerOverruns, onPhase_eq _ hx hp, if_pos ha]

/-- The collision fault of a transaction that it ends. -/
theorem exec_collision_addressed (hp : x.phase = .send ∧ x.frame.target.isSome = true ∨
      x.phase = .receive ∧ answerUnread x = false) :
    exec .collision s =
      .next (takeHold (deliver x .broken (raiseForFrame .collision x.frame (frameBoundary (spaced x s))))) := by
  have hline : (deliver x .broken (raiseForFrame .collision x.frame (frameBoundary (spaced x s)))).line =
      (spaced x s).line := by simp [raiseForFrame]
  show Host.Outcome.next (whenLive _ s) = _
  rw [whenLive_running _ hr, collide]
  rcases hp with ⟨hp, ht⟩ | ⟨hp, hu⟩
  · simp only [hx, hp, ht, if_true, toPhase_space]
    rw [settle_ofLine hline]
  · simp only [hx, hp, hu, Bool.false_eq_true, if_false, toPhase_space]
    rw [settle_ofLine hline]

theorem exec_collision_unread (hp : x.phase = .receive) (hu : answerUnread x = true) : exec .collision s = .next s := by
  show Host.Outcome.next (whenLive _ s) = _
  rw [whenLive_running _ hr, collide]
  simp only [hx, hp, hu, if_true]

theorem exec_collision_broadcast (hp : x.phase = .send) (ht : x.frame.target = none) (hu : x.user ≠ .survey) :
    exec .collision s = .next (takeHold (raiseForFrame .collision x.frame (frameBoundary (spaced x s)))) := by
  have hline : (raiseForFrame .collision x.frame (frameBoundary (spaced x s))).line = (spaced x s).line := by
    simp [raiseForFrame]
  show Host.Outcome.next (whenLive _ s) = _
  rw [whenLive_running _ hr, collide]
  simp only [hx, hp, ht, hu, Option.isSome_none, Bool.false_eq_true, if_false, toPhase_space]
  rw [settle_ofLine hline]

theorem exec_collision_survey (hp : x.phase = .send) (ht : x.frame.target = none) (hu : x.user = .survey) :
    exec .collision s =
      .next
        (takeHold (takeBroadcastOutcome false (raiseForFrame .collision x.frame (frameBoundary (spaced x s))))) := by
  have hline : (takeBroadcastOutcome false (raiseForFrame .collision x.frame (frameBoundary (spaced x s)))).line =
      (spaced x s).line := by simp [raiseForFrame]
  show Host.Outcome.next (whenLive _ s) = _
  rw [whenLive_running _ hr, collide]
  simp only [hx, hp, ht, hu, Option.isSome_none, Bool.false_eq_true, if_false, if_true, toPhase_space]
  rw [settle_ofLine hline]

theorem exec_collision_space (hp : x.phase = .space) (hh : x.spaceHit = false) :
    exec .collision s =
      .next (takeHold (raiseForFrame .collision x.frame (s.setTxn (some { x with spaceHit := true })))) := by
  show Host.Outcome.next (whenLive _ s) = _
  rw [whenLive_running _ hr, collide]
  simp only [hx, hp, hh, Bool.false_eq_true, if_false]
  rw [settle_onLine]
  simp [raiseForFrame]

theorem exec_collision_spaceAgain (hp : x.phase = .space) (hh : x.spaceHit = true) :
    exec .collision s = .next s := by
  show Host.Outcome.next (whenLive _ s) = _
  rw [whenLive_running _ hr, collide]
  simp only [hx, hp, hh, if_true]

theorem exec_spaceEnd_space (hp : x.phase = .space) : exec .spaceEnd s = .next (settle (spaceDone x s)) := by
  rw [exec_spaceEnd hr, spaceEnds_space hx hp]

end

theorem exec_collision_idle (hr : s.start.phase = .running) (hx : s.line.txn = none) :
    exec .collision s = .next (lineHeldLow s) := by
  show Host.Outcome.next (whenLive _ s) = _
  rw [whenLive_running _ hr, collide, hx]

theorem expectedLength_target (ht : x.frame.target = some i) :
    expectedLength x s = (s.entry i).descriptor.map fun d => d.reportLength := by
  simp [expectedLength, ht]

theorem frameBoundary_spaced (h : s.survey.stopping = false) (x : Transaction) :
    frameBoundary (spaced x s) = spaced x s := frameBoundary_none h

theorem frameBoundary_spaced_leave (h : s.survey.stopping = false) (x : Transaction) :
    frameBoundary (spaced x s.nodesLeave) = spaced x s.nodesLeave := frameBoundary_none h

end Sys2Proof.Machine
end
section
/-! PROOFS. Frames that pass on, and the polls: misses, answers taken, and reports that are routed. -/

namespace Sys2Proof.Machine

variable {s : State} {x : Transaction} {i : Slot}

/-! ## Updates of one entry -/

/-- The later of two writes of one entry stands. -/
theorem setEntry_setEntry (a b : Entry) : (s.setEntry i a).setEntry i b = s.setEntry i b := by
  have hentries : putCell (putCell s.dir.entries i a) i b = putCell s.dir.entries i b := by
    refine table_ext fun j => ?_
    by_cases hj : j = i
    · subst hj
      simp
    · simp [cell_putCell_ne _ hj]
  simp only [State.setEntry, hentries]

/-- Nothing but one entry, the fault unit and the FAULT latch may have changed. -/
structure OnlyEntry (i : Slot) (s t : State) : Prop where
  others : ∀ j : Slot, j ≠ i → t.entry j = s.entry j
  line : t.line = s.line
  store : t.store = s.store
  pool : t.pool = s.pool
  survey : t.survey = s.survey
  sched : t.sched = s.sched
  settings : t.settings = s.settings
  start : t.start = s.start
  nodes : t.nodes = s.nodes
  bindings : t.dir.bindings = s.dir.bindings
  changes : t.dir.changes = s.dir.changes

theorem onlyEntry_same (i : Slot) (s : State) : OnlyEntry i s s :=
  ⟨fun _ _ => rfl, rfl, rfl, rfl, rfl, rfl, rfl, rfl, rfl, rfl, rfl⟩

theorem OnlyEntry.trans {t u : State} (h : OnlyEntry i s t) (h' : OnlyEntry i t u) : OnlyEntry i s u where
  others j hj := (h'.others j hj).trans (h.others j hj)
  line := h'.line.trans h.line
  store := h'.store.trans h.store
  pool := h'.pool.trans h.pool
  survey := h'.survey.trans h.survey
  sched := h'.sched.trans h.sched
  settings := h'.settings.trans h.settings
  start := h'.start.trans h.start
  nodes := h'.nodes.trans h.nodes
  bindings := h'.bindings.trans h.bindings
  changes := h'.changes.trans h.changes

theorem onlyEntry_setEntry (i : Slot) (e : Entry) (s : State) : OnlyEntry i s (s.setEntry i e) :=
  ⟨fun _ hj => entry_setEntry_ne s hj e, rfl, rfl, rfl, rfl, rfl, rfl, rfl, rfl, rfl, rfl⟩

theorem onlyEntry_raise (i : Slot) (k : FaultKind) (slot detail : Byte) (s : State) :
    OnlyEntry i s (raise k slot detail s) := by
  rw [raise_eq, occur_eq]
  exact ⟨fun _ _ => rfl, rfl, rfl, rfl, rfl, rfl, rfl, rfl, rfl, rfl, rfl⟩

/-- Two states whose fault unit, link unit and clock agree: an occurrence does the same in both. -/
structure SameFaults (s t : State) : Prop where
  faults : t.faults = s.faults
  link : t.link = s.link
  start : t.start = s.start

theorem SameFaults.raise {t : State} (h : SameFaults s t) (k : FaultKind) (slot detail : Byte) :
    SameFaults (raise k slot detail s) (Machine.raise k slot detail t) := by
  obtain ⟨hf, hl, hs⟩ := h
  rw [raise_eq, raise_eq, occur_eq, occur_eq]
  rcases s with ⟨⟩
  rcases t with ⟨⟩
  cases hf
  cases hl
  cases hs
  exact ⟨rfl, rfl, rfl⟩

theorem SameFaults.setEntry {t : State} (h : SameFaults s t) (i : Slot) (e : Entry) : SameFaults s (t.setEntry i e) :=
  ⟨h.faults, h.link, h.start⟩

@[simp] theorem raise_entry (k : FaultKind) (slot detail : Byte) (s : State) (j : Slot) :
    (raise k slot detail s).entry j = s.entry j := occur_entry ..

@[simp] theorem raise_sched (k : FaultKind) (slot detail : Byte) (s : State) : (raise k slot detail s).sched = s.sched :=
  occur_sched ..

@[simp] theorem raise_ring (k : FaultKind) (slot detail : Byte) (s : State) (j : Slot) :
    (raise k slot detail s).ring j = s.ring j := occur_ring ..

@[simp] theorem raise_now (k : FaultKind) (slot detail : Byte) (s : State) : (raise k slot detail s).now = s.now :=
  occur_now ..

/-! ## Broadcasts of a survey (R52, R55) -/

theorem takeBroadcastOutcome_skip {r : Round} (hround : s.survey.round = some r) (hphase : r.phase = .skip)
    (sent : Bool) : takeBroadcastOutcome sent s = closeRound .served r s := by
  simp only [takeBroadcastOutcome, hround, hphase]

theorem takeBroadcastOutcome_call {r : Round} (hround : s.survey.round = some r) (hphase : r.phase = .contest) :
    takeBroadcastOutcome false s = closeRound .failed r s := by
  simp [takeBroadcastOutcome, hround, hphase]

/-! ## Misses (R87) -/

/-- What a poll that is not answered comes to, for an entry and a miss limit as they stood. -/
def missTaken (i : Slot) (e : Entry) (limit : Nat) (u : State) : State :=
  if e.state = .paused then raise .noAnswer (slotByte i) 0 u
  else if e.missCount + 1 < limit then
    raise .noAnswer (slotByte i) (BitVec.ofNat 8 (e.missCount + 1)) (u.setEntry i { e with missCount := e.missCount + 1 })
  else
    raise .nodeLost (slotByte i) (BitVec.ofNat 8 limit)
      ((((raise .noAnswer (slotByte i) (BitVec.ofNat 8 limit) u).setEntry i
        { e with state := .lost, missCount := 0, gateOpen := false }).setDue i false).addChange i)

theorem countMiss_eq (i : Slot) (u : State) (h : (u.entry i).state ≠ .paused) :
    countMiss i u = missTaken i (u.entry i) u.sched.missLimit u := by
  rw [missTaken, if_neg h, countMiss]
  simp only [passToLost, raise_entry, lostEntry]

theorem takePollOutcome_missed {o : LineOutcome} (u : State) (ho : o = .silent ∨ o = .broken)
    (h : (u.entry i).state = .active ∨ (u.entry i).state = .paused) :
    takePollOutcome i o u = missTaken i (u.entry i) u.sched.missLimit u := by
  have hactive : (u.entry i).state = .active → countMiss i u = missTaken i (u.entry i) u.sched.missLimit u :=
    fun ha => countMiss_eq i u (by rw [ha]; decide)
  have hpaused : (u.entry i).state = .paused →
      raise .noAnswer (slotByte i) 0 u = missTaken i (u.entry i) u.sched.missLimit u := fun ha => by
    rw [missTaken, if_pos ha]
  rcases ho with rfl | rfl <;> rcases h with ha | ha <;> simp only [takePollOutcome, ha]
  · exact hactive ha
  · exact hpaused ha
  · exact hactive ha
  · exact hpaused ha

/-! ## Answers of polls (R83 to R86) -/

theorem takePollOutcome_good {status sequence : Byte} {payload : List Byte} (u : State)
    (h : (u.entry i).state = .active ∨ (u.entry i).state = .paused) :
    takePollOutcome i (.good status (sequence :: payload)) u = goodAnswer i status sequence payload u := by
  rcases h with h | h <;> simp only [takePollOutcome, h]

theorem onlyEntry_raiseAlarm (i : Slot) (sequence : Byte) (alarm : Bool) (s : State) :
    OnlyEntry i s (raiseAlarm i sequence alarm s) := by
  unfold raiseAlarm
  split
  · exact onlyEntry_raise ..
  · exact onlyEntry_same ..

@[simp] theorem raiseAlarm_entry (i : Slot) (sequence : Byte) (alarm : Bool) (s : State) (j : Slot) :
    (raiseAlarm i sequence alarm s).entry j = s.entry j := by
  unfold raiseAlarm
  split
  · exact raise_entry ..
  · rfl

@[simp] theorem raiseAlarm_ring (i : Slot) (sequence : Byte) (alarm : Bool) (s : State) (j : Slot) :
    (raiseAlarm i sequence alarm s).ring j = s.ring j := by
  unfold raiseAlarm
  split
  · exact raise_ring ..
  · rfl

@[simp] theorem raiseAlarm_now (i : Slot) (sequence : Byte) (alarm : Bool) (s : State) :
    (raiseAlarm i sequence alarm s).now = s.now := by
  unfold raiseAlarm
  split
  · exact raise_now ..
  · rfl

theorem SameFaults.raiseAlarm {t : State} (h : SameFaults s t) (he : t.entry i = s.entry i) (sequence : Byte)
    (alarm : Bool) : SameFaults (raiseAlarm i sequence alarm s) (Machine.raiseAlarm i sequence alarm t) := by
  unfold Machine.raiseAlarm
  rw [he]
  split
  · exact h.raise ..
  · exact h

theorem goodAnswer_noReport {status : Byte} (h : hasReport status = false) (sequence : Byte) (payload : List Byte) :
    goodAnswer i status sequence payload s =
      (raiseAlarm i sequence (alarmFlag status) s).setEntry i (answeredEntry (alarmFlag status) (s.entry i)) := by
  simp [goodAnswer, h]

theorem goodAnswer_repeat {status sequence : Byte} (h : hasReport status = true)
    (hq : (s.entry i).lastSequence = some sequence) (payload : List Byte) :
    goodAnswer i status sequence payload s =
      (raiseAlarm i sequence (alarmFlag status) s).setEntry i
        { answeredEntry (alarmFlag status) (s.entry i) with duplicates := satAdd (s.entry i).duplicates 1 } := by
  simp only [goodAnswer, h, hq, if_true, setEntry_setEntry, entry_setEntry_self, raiseAlarm_entry]
  rfl

/-- R85: the occurrence of a gap, where one is seen. -/
def gapRaised (i : Slot) (last : Option Byte) (sequence : Byte) (u : State) : State :=
  match last with
  | some q => if sequence = q + 1 then u else raise .sequenceGap (slotByte i) (sequence - q - 1) u
  | none => u

theorem sub_sub_one_eq_zero_iff (sequence q : Byte) : sequence - q - 1 = 0 ↔ sequence = q + 1 := by bv_omega

/-- The model's form of the gap check. -/
theorem gapRaised_eq (last : Option Byte) (sequence : Byte) (u : State) :
    (if gapSeen last sequence then raise .sequenceGap (slotByte i) (reportsMissed (last.getD 0) sequence) u else u) =
      gapRaised i last sequence u := by
  cases last with
  | none => simp [gapSeen, gapRaised]
  | some q =>
    by_cases hq : sequence = q + 1
    · have hzero := (sub_sub_one_eq_zero_iff sequence q).2 hq
      simp only [gapSeen, gapRaised, reportsMissed, ne_eq, hzero, not_true_eq_false, decide_false, Bool.false_eq_true,
        if_false, if_pos hq]
    · have hzero : ¬ sequence - q - 1 = 0 := mt (sub_sub_one_eq_zero_iff sequence q).1 hq
      simp only [gapSeen, gapRaised, reportsMissed, ne_eq, hzero, not_false_eq_true, decide_true, if_true, hq, if_false,
        Option.getD_some]

theorem onlyEntry_gapRaised (i : Slot) (last : Option Byte) (sequence : Byte) (u : State) :
    OnlyEntry i u (gapRaised i last sequence u) := by
  unfold gapRaised
  split
  · split
    · exact onlyEntry_same ..
    · exact onlyEntry_raise ..
  · exact onlyEntry_same ..

@[simp] theorem gapRaised_entry (i : Slot) (last : Option Byte) (sequence : Byte) (u : State) (j : Slot) :
    (gapRaised i last sequence u).entry j = u.entry j := by
  unfold gapRaised
  split
  · split
    · rfl
    · exact raise_entry ..
  · rfl

@[simp] theorem gapRaised_ring (i : Slot) (last : Option Byte) (sequence : Byte) (u : State) (j : Slot) :
    (gapRaised i last sequence u).ring j = u.ring j := by
  unfold gapRaised
  split
  · split
    · rfl
    · exact raise_ring ..
  · rfl

theorem SameFaults.gapRaised {t : State} (h : SameFaults s t) (i : Slot) (last : Option Byte) (sequence : Byte) :
    SameFaults (gapRaised i last sequence s) (Machine.gapRaised i last sequence t) := by
  unfold Machine.gapRaised
  split
  · split
    · exact h
    · exact h.raise ..
  · exact h

/-- The entry after an answer with a report that is taken. -/
def reportedEntry (alarm : Bool) (sequence : Byte) (e : Entry) : Entry := takenEntry sequence (answeredEntry alarm e)

/-- The record of a report that is taken. -/
def reportRecord (s : State) (i : Slot) (sequence : Byte) (alarm : Bool) (payload : List Byte) : ReportRecord where
  sequence := sequence
  timestamp := s.now
  gap := gapSeen (s.entry i).lastSequence sequence
  nodeAlarm := alarm
  lossBefore := false
  payload := payload

/-- R85, R86: a report is counted, its gap raised, and its record routed. -/
theorem goodAnswer_taken {status sequence : Byte} (h : hasReport status = true)
    (hq : (s.entry i).lastSequence ≠ some sequence) (payload : List Byte) :
    goodAnswer i status sequence payload s =
      routeRecord i (reportRecord s i sequence (alarmFlag status) payload)
        (gapRaised i (s.entry i).lastSequence sequence
          ((raiseAlarm i sequence (alarmFlag status) s).setEntry i
            (reportedEntry (alarmFlag status) sequence (s.entry i)))) := by
  simp only [goodAnswer, h, hq, if_true, if_false, takeReport, entry_setEntry_self, raiseAlarm_entry, setEntry_setEntry,
    gapRaised_eq]
  simp [reportRecord, reportedEntry, answeredEntry]

theorem routeRecord_ring {r : Ring} (h : s.ring i = some r) (rec : ReportRecord) :
    routeRecord i rec s = appendTo i r rec s := by simp [routeRecord, h]

theorem routeRecord_none (h : s.ring i = none) (rec : ReportRecord) :
    routeRecord i rec s = s.setEntry i { s.entry i with unrouted := satAdd (s.entry i).unrouted 1 } := by
  simp [routeRecord, h]

theorem goodAnswer_unrouted {status sequence : Byte} (h : hasReport status = true)
    (hq : (s.entry i).lastSequence ≠ some sequence) (hring : s.ring i = none) (payload : List Byte) :
    goodAnswer i status sequence payload s =
      (gapRaised i (s.entry i).lastSequence sequence
        ((raiseAlarm i sequence (alarmFlag status) s).setEntry i
          (reportedEntry (alarmFlag status) sequence (s.entry i)))).setEntry i
        { reportedEntry (alarmFlag status) sequence (s.entry i) with unrouted := satAdd (s.entry i).unrouted 1 } := by
  rw [goodAnswer_taken h hq, routeRecord_none (by simpa using hring)]
  simp [reportedEntry, answeredEntry, takenEntry]

end Sys2Proof.Machine

namespace Sys2Proof.Proofs

open Sys2Proof Sys2Proof.Machine

/-- Settles O37: the five ways in which a frame ends. -/
theorem framesPassOn : Obligations.FramesPassOn := by
  intro s x missed hr hx
  refine ⟨fun hp ht => exec_commandSent hr hx hp ht missed, fun hp => exec_answerStart hr hx hp,
    fun hp ht hc => exec_broadcast_call hr hx hp ht hc missed, fun hp ht hc hu => ?other, fun r hp ht hc hu hstop hround hphase => ?skip⟩
  case other =>
    rw [exec_broadcast_other hr hx hp ht hc missed, if_neg hu]
    rfl
  case skip =>
    rw [exec_broadcast_other hr hx hp ht (by rw [hc]; decide) missed, if_pos hu,
      frameBoundary_spaced (s := s.nodesHear x.frame missed) hstop x]
    rw [takeBroadcastOutcome_skip (s := spaced x (s.nodesHear x.frame missed)) hround hphase]
    rfl

/-- Settles O38: every such end hands SILENT or BROKEN to the report intake, after the fault that broke it. -/
theorem unansweredPollsAreMisses : Obligations.UnansweredPollsAreMisses := by
  intro s x i hr hx ha hu ht he hn sp missed
  have hmissed : ∀ (o : LineOutcome) (u : State), o = .silent ∨ o = .broken → u.entry i = s.entry i →
      u.sched = s.sched → deliver x o u = missed u := by
    intro o u ho hentry hsched
    rw [deliver_poll ha hu ht, takePollOutcome_missed u ho (hentry ▸ he), hentry, hsched]
    rfl
  have hraised : ∀ (k : FaultKind) (u : State), u.entry i = s.entry i → u.sched = s.sched →
      deliver x .broken (raiseForFrame k x.frame u) = missed (raise k (slotByte i) (commandCode x.frame.command) u) := by
    intro k u hentry hsched
    rw [raiseForFrame_target k ht]
    exact hmissed .broken _ (.inr rfl) ((raise_entry ..).trans hentry) ((raise_sched ..).trans hsched)
  refine ⟨fun hp => ?window, fun hstop => ⟨fun chars hp hj => ?answer, fun hp => ?overrun, fun hp => ?collision⟩⟩
  case window => rw [exec_answerWindowExpiry hr hx hp, hmissed .silent (spaced x s) (.inl rfl) rfl rfl]; rfl
  case answer =>
    rw [exec_answerReceived_broken hr hx hp ha (by rw [expectedLength_target ht]; exact hj),
      frameBoundary_spaced_leave hstop, hraised .badCheck (spaced x s.nodesLeave) rfl rfl]
    rfl
  case overrun =>
    rw [exec_twentyFirst hr hx hp ha, frameBoundary_spaced hstop, hraised .badCheck (spaced x s) rfl rfl]
    rfl
  case collision =>
    rw [exec_collision_addressed hr hx (hp.imp (fun h => ⟨h, by simp [ht]⟩) fun h => ⟨h, by simp [answerUnread, ha]⟩),
      frameBoundary_spaced hstop, hraised .collision (spaced x s) rfl rfl]
    rfl

/-- Settles O39: the answer goes to the report intake, which touches the polled entry and the fault unit alone. -/
theorem pollAnswersAreTaken : Obligations.PollAnswersAreTaken := by
  intro s x i chars payload status sequence ⟨hr, hx, hp, ha⟩ hu ht hstop he hn hj alarmed gapped hring
  obtain ⟨u, hu'⟩ : ∃ u, u = spaced x s.nodesLeave := ⟨_, rfl⟩
  have hentry : ∀ j, u.entry j = s.entry j := fun j => by rw [hu']; rfl
  have hringU : u.ring i = s.ring i := by rw [hu']; rfl
  have hsame : SameFaults s u := by rw [hu']; exact ⟨rfl, rfl, rfl⟩
  have halarm : SameFaults alarmed (raiseAlarm i sequence (alarmFlag status) u) :=
    SameFaults.raiseAlarm hsame (hentry i) sequence (alarmFlag status)
  have honlyAlarm := onlyEntry_raiseAlarm i sequence (alarmFlag status) u
  have hgap : ∀ e, SameFaults gapped
      (gapRaised i (s.entry i).lastSequence sequence ((raiseAlarm i sequence (alarmFlag status) u).setEntry i e)) :=
    fun e => SameFaults.gapRaised (halarm.setEntry i e) i (s.entry i).lastSequence sequence
  have honly : OnlyEntry i u (goodAnswer i status sequence payload u) := by
    cases hreport : hasReport status
    · rw [goodAnswer_noReport hreport]
      exact honlyAlarm.trans (onlyEntry_setEntry ..)
    · by_cases hseq : (u.entry i).lastSequence = some sequence
      · rw [goodAnswer_repeat hreport hseq]
        exact honlyAlarm.trans (onlyEntry_setEntry ..)
      · rw [goodAnswer_unrouted hreport hseq (hringU.trans (hring hreport (hentry i ▸ hseq)))]
        exact ((honlyAlarm.trans (onlyEntry_setEntry ..)).trans (onlyEntry_gapRaised ..)).trans (onlyEntry_setEntry ..)
  refine ⟨goodAnswer i status sequence payload u, ?exec, honly.line.trans ?line,
    fun j hj => (honly.others j hj).trans (hentry j), honly.store.trans ?store, honly.pool.trans ?pool,
    honly.survey.trans ?survey, honly.sched.trans ?sched, honly.settings.trans ?settings, honly.start.trans ?start,
    honly.nodes.trans ?nodes, honly.bindings.trans ?bindings, honly.changes.trans ?changes, fun hreport => ?noReport,
    fun hreport hseq => ?repeated, fun hreport hseq => ?taken⟩
  case exec =>
    rw [exec_answerReceived_good hr hx hp ha (by rw [expectedLength_target ht]; exact hj), frameBoundary_spaced_leave hstop,
      deliver_poll ha hu ht, ← hu', takePollOutcome_good u (hentry i ▸ he)]
  case noReport =>
    rw [goodAnswer_noReport hreport, entry_setEntry_self, hentry]
    exact ⟨rfl, (halarm.setEntry i _).faults, (halarm.setEntry i _).link⟩
  case repeated =>
    rw [goodAnswer_repeat hreport ((hentry i).symm ▸ hseq), entry_setEntry_self, hentry]
    exact ⟨rfl, (halarm.setEntry i _).faults, (halarm.setEntry i _).link⟩
  case taken =>
    rw [goodAnswer_unrouted hreport ((hentry i).symm ▸ hseq) (hringU.trans (hring hreport hseq)), entry_setEntry_self,
      hentry]
    exact ⟨rfl, ((hgap _).setEntry i _).faults, ((hgap _).setEntry i _).link⟩
  all_goals rw [hu']; rfl

end Sys2Proof.Proofs
end
section
/-! PROOFS. Reports in report memory: the bytes of a record that is stored, and the records that it displaces. -/

namespace Sys2Proof.Machine

variable {s : State} {i : Slot} {r : Ring} {m : Memory}

/-! ## The bytes of a record (R97) -/

/-- Fewer positions than the ring has bytes lie at different offsets. -/
theorem ringOffset_ne {k j : Nat} (hj : 1 ≤ j) (hsize : j < r.size) : ringOffset r k ≠ ringOffset r (k + j) := by
  intro h
  have hmod : (r.oldest + k) % r.size = (r.oldest + k + j) % r.size := by
    simp only [ringOffset, ← Nat.add_assoc] at h
    omega
  have hzero : j % r.size = 0 := by
    have hdiff := Nat.sub_mod_eq_zero_of_mod_eq hmod.symm
    rwa [Nat.add_sub_cancel_left] at hdiff
  rw [Nat.mod_eq_of_lt hsize] at hzero
  omega

/-- Bytes that are written are read back. -/
theorem ringBytes_ringWrite (bytes : List Byte) {k : Nat} (hwf : Memory.wf m = true) (hlen : bytes.length ≤ r.size) :
    ringBytes (ringWrite m r k bytes) r bytes.length k = bytes := by
  induction bytes generalizing m k with
  | nil => rfl
  | cons b rest ih =>
    rw [List.length_cons] at hlen
    have hwf' : Memory.wf (Memory.write m (ringOffset r k) b) = true := write_wf m _ b hwf
    have hout : ¬ ringSpan r (k + 1) rest.length (ringOffset r k) := by
      rintro ⟨j, hj, he⟩
      rw [Nat.add_assoc] at he
      exact ringOffset_ne (by omega) (by omega) he
    have hhead : ringByte (ringWrite m r k (b :: rest)) r k = b := by
      rw [ringByte, ringWrite, read_ringWrite_ne rest _ r (k + 1) _ hwf' hout, read_write_self m _ b hwf]
    rw [List.length_cons, ringBytes, hhead, ringWrite, ih hwf' (by omega)]

/-- Where a ring writes is given by its place and its oldest byte alone. -/
theorem ringWrite_discarded (bytes : List Byte) (d : BitVec 16) (k : Nat) :
    ringWrite m { r with discarded := d } k bytes = ringWrite m r k bytes := by
  induction bytes generalizing m k with
  | nil => rfl
  | cons b rest ih => exact ih (k + 1)

/-- The loss-before flag does not change a record's length. -/
theorem recordBytes_length_loss (rec : ReportRecord) (loss : Bool) :
    (recordBytes { rec with lossBefore := loss }).length = (recordBytes rec).length := by
  rw [recordBytes_length, recordBytes_length]

/-! ## A record with room (R97) and a KEEP_OLD ring without (R98) -/

theorem appendTo_fits {rec : ReportRecord} (h : (recordBytes rec).length ≤ r.size - r.used) :
    appendTo i r rec s = storeRecord i r false rec s := if_pos h

theorem appendTo_keepOld {rec : ReportRecord} (h : r.size - r.used < (recordBytes rec).length) (hp : r.policy = .keepOld) :
    appendTo i r rec s = refuseRecord i r s := by
  rw [appendTo, if_neg (Nat.not_le.2 h), hp]

theorem appendTo_keepNew {rec : ReportRecord} (h : r.size - r.used < (recordBytes rec).length) (hp : r.policy = .keepNew) :
    appendTo i r rec s = replaceRecords i r rec s := by
  rw [appendTo, if_neg (Nat.not_le.2 h), hp]

/-! ## The records that a KEEP_NEW ring discards (R99) -/

theorem afterRecords_succ : ∀ (n k : Nat),
    afterRecords m r (n + 1) k = afterRecords m r n k + recordSize m r (afterRecords m r n k)
  | 0, _ => rfl
  | n + 1, k => by
    rw [afterRecords, afterRecords_succ n (k + recordSize m r k)]
    rfl

/-- What a ring without its oldest records reads at a position is what the ring reads after those records. -/
theorem ringByte_dropRecords (n k : Nat) :
    ringByte m (dropRecords m n r) k = ringByte m r (afterRecords m r n 0 + k) := by
  simp only [ringByte, ringOffset, dropRecords, Nat.mod_add_mod, Nat.add_assoc]

/-- Discarding one record more. -/
theorem dropRecords_succ (n : Nat) (h : n < r.count) : dropRecords m 1 (dropRecords m n r) = dropRecords m (n + 1) r := by
  have hsize : afterRecords m (dropRecords m n r) 1 0 = recordSize m r (afterRecords m r n 0) := by
    simp only [afterRecords, Nat.zero_add, recordSize, ringByte_dropRecords]
  have hused : (dropRecords m n r).used = r.used - afterRecords m r n 0 := if_neg (Nat.not_le.2 h)
  rw [dropRecords, hsize, hused, dropRecords, dropRecords, afterRecords_succ]
  congr 1
  · simp only [Nat.mod_add_mod, Nat.add_assoc]
  · by_cases hlast : r.count ≤ n + 1
    · rw [if_pos hlast, if_pos (show r.count - n ≤ 1 by omega)]
    · rw [if_neg hlast, if_neg (show ¬ r.count - n ≤ 1 by omega), Nat.sub_sub]

/-- R99: the first number of records, from one on, after which there is room or nothing left. -/
theorem discardFor_dropRecords (need : Nat) {fuel k : Nat} (hfuel : k + fuel = r.count) :
    ∃ n, discardFor m need fuel (dropRecords m k r) k = (dropRecords m n r, n) ∧ k ≤ n ∧ n ≤ r.count ∧
      (need ≤ r.size - (dropRecords m n r).used ∨ n = r.count) ∧
      ∀ j, k ≤ j → j < n → r.size - (dropRecords m j r).used < need := by
  induction fuel generalizing k with
  | zero => exact ⟨k, rfl, (Nat.le_refl _), by omega, .inr (by omega), fun j h1 h2 => absurd h2 (by omega)⟩
  | succ fuel ih =>
    have hcount : ¬ (dropRecords m k r).count = 0 := by
      simp only [dropRecords]
      omega
    by_cases hroom : need ≤ r.size - (dropRecords m k r).used
    · exact ⟨k, if_pos (.inl hroom), (Nat.le_refl _), by omega, .inl hroom, fun j h1 h2 => absurd h2 (by omega)⟩
    · obtain ⟨n, hdiscard, hkn, hn, hstop, hbefore⟩ := ih (k := k + 1) (by omega)
      refine ⟨n, ?_, by omega, hn, hstop, fun j h1 h2 => ?_⟩
      · rw [← dropRecords_succ k (by omega)] at hdiscard
        exact (if_neg (not_or.2 ⟨hroom, hcount⟩)).trans hdiscard
      · by_cases hj : j = k
        · rw [hj]
          exact Nat.not_le.1 hroom
        · exact hbefore j (by omega) h2

/-- The bytes that are used once some records have gone, in a ring whose records take what it uses. -/
theorem used_dropRecords {n : Nat} (hn : n ≤ r.count) (hused : r.used = afterRecords m r r.count 0) :
    (dropRecords m n r).used = r.used - afterRecords m r n 0 := by
  by_cases hlast : r.count ≤ n
  · have heq : n = r.count := Nat.le_antisymm hn hlast
    rw [heq, ← hused, Nat.sub_self]
    exact if_pos (Nat.le_refl _)
  · exact if_neg hlast

/-- R99: how many records a KEEP_NEW ring discards for one that does not fit. -/
theorem discardFor_least {need : Nat} (hfull : r.size - r.used < need) (hneed : need ≤ r.size)
    (hused : r.used = afterRecords m r r.count 0) :
    ∃ k, discardFor m need r.count r 0 = (dropRecords m k r, k) ∧ 1 ≤ k ∧ k ≤ r.count ∧
      need ≤ r.size - (r.used - afterRecords m r k 0) ∧
      ∀ j, j < k → r.size - (r.used - afterRecords m r j 0) < need := by
  have hcount : r.count ≠ 0 := by
    intro h0
    rw [h0] at hused
    simp only [afterRecords] at hused
    omega
  obtain ⟨fuel, hfuel⟩ := Nat.exists_eq_succ_of_ne_zero hcount
  obtain ⟨n, hdiscard, h1n, hn, hstop, hbefore⟩ := discardFor_dropRecords (m := m) (r := r) need (fuel := fuel) (k := 1)
    (by omega)
  refine ⟨n, ?_, h1n, hn, ?_, fun j hj => ?_⟩
  · rw [hfuel, discardFor, if_neg (not_or.2 ⟨Nat.not_le.2 hfull, hcount⟩)]
    exact hdiscard
  · rw [← used_dropRecords hn hused]
    refine hstop.elim id fun hlast => ?_
    rw [used_dropRecords hn hused, hlast, ← hused, Nat.sub_self]
    exact hneed
  · by_cases h0 : j = 0
    · rw [h0]
      exact hfull
    · rw [← used_dropRecords (by omega) hused]
      exact hbefore j (by omega) hj

/-- R99: a KEEP_NEW ring that discards some records for a new one. -/
theorem replaceRecords_eq {rec : ReportRecord} {k : Nat} (hk : k ≤ r.count)
    (hdiscard : discardFor s.store.memory (recordBytes rec).length r.count r 0 = (dropRecords s.store.memory k r, k)) :
    replaceRecords i r rec s =
      let left := dropRecords s.store.memory k r
      let marked :=
        if k = r.count then s.store.memory
        else Memory.write s.store.memory (ringOffset left 5) (ringByte s.store.memory left 5 ||| 0x04)
      raise .ringOverflow (slotByte i) (BitVec.ofNat 8 k)
        ((s.setMemory
            (ringWrite marked left left.used
              (recordBytes { rec with lossBefore := r.pendingLoss || decide (k = r.count) }))).setRing i
          (some
            { left with
              used := left.used + (recordBytes rec).length
              count := left.count + 1
              pendingLoss := false
              stored := satAdd r.stored 1
              discarded := satAdd r.discarded k })) := by
  have hempty : (dropRecords s.store.memory k r).count = 0 ↔ k = r.count := by
    simp only [dropRecords]
    omega
  simp only [replaceRecords, hdiscard, storeRecord, ringWrite_discarded, recordBytes_length_loss, markOldest, hempty]
  rfl

end Sys2Proof.Machine

namespace Sys2Proof.Proofs

open Sys2Proof Sys2Proof.Machine

/-- Settles O40: the record that the intake builds, and what a ring does with a record. -/
theorem reportsAreStoredOrRefused : Obligations.ReportsAreStoredOrRefused := by
  refine ⟨?intake, fun i r rec s hm hroom => ?fits, fun i r rec s hfull hp => appendTo_keepOld hfull hp,
    fun i r rec s hfull hneed hp hused => ?keepNew⟩
  case intake =>
    intro s x i r chars payload status sequence ⟨hr, hx, hp, ha⟩ hu ht hstop he hring hn hj hreport hseq sp alarmed taken
      gapped
    rw [exec_answerReceived_good hr hx hp ha (by rw [expectedLength_target ht]; exact hj), frameBoundary_spaced_leave hstop,
      deliver_poll ha hu ht, takePollOutcome_good (spaced x s.nodesLeave) he,
      goodAnswer_taken (s := spaced x s.nodesLeave) hreport hseq, routeRecord_ring (r := r) (by rw [gapRaised_ring, setEntry_ring, raiseAlarm_ring]; exact hring)]
    rfl
  case fits =>
    refine ⟨_, rfl, ?_⟩
    rw [appendTo_fits hroom, storeRecord, Bool.or_false]
    have hlen := recordBytes_length_loss rec r.pendingLoss
    refine ⟨by rw [ring_setRing_self, hlen], fun j hj => ring_setRing_ne _ hj _, ?bytes, fun a ha => ?others, rfl, rfl, rfl⟩
    case bytes =>
      rw [← hlen]
      exact ringBytes_ringWrite _ hm (by omega)
    case others => exact read_ringWrite_ne _ _ r r.used a hm (by rwa [hlen])
  case keepNew =>
    obtain ⟨k, hdiscard, h1k, hk, hroom, hbefore⟩ := discardFor_least hfull hneed hused
    exact ⟨k, h1k, hk, hroom, hbefore, (appendTo_keepNew hfull hp).trans (replaceRecords_eq hk hdiscard)⟩

end Sys2Proof.Proofs
end
section
/-! PROOFS. The pool's attempts and their ends, and collisions. -/

namespace Sys2Proof.Machine

variable {s : State} {x : Transaction} {i : Slot} {r : PoolRequest}

/-! ## Completions (R114, R120) -/

/-- The pool once its request in flight has completed. -/
def Pool.finished (p : Pool) (r : PoolRequest) (o : PoolOutcome) (data : List Byte) : Pool :=
  { p with inFlight := none, completed := p.completed ++ [{ request := r, outcome := o, data := data }] }

/-- A completion that brings no claim to the directory. -/
theorem completeRequest_plain {o : PoolOutcome} (h : o = .done → r.work ≠ .describe ∧ r.work ≠ .release)
    (data : List Byte) (s : State) : completeRequest r o data s = s.setPool (s.pool.finished r o data) := by
  unfold completeRequest completionClaim
  split
  · rename_i hw
    exact absurd hw (h rfl).1
  · rename_i hw
    exact absurd hw (h rfl).2
  · rfl

theorem completeRequest_describe {d : Descriptor} {data : List Byte} (hw : r.work = .describe)
    (hd : descriptorOf data = some d) (s : State) : completeRequest r .done data s =
      describeDone r.slot d (s.setPool (s.pool.finished r .done data)) := by
  simp only [completeRequest, completionClaim, hw, hd]
  rfl

theorem completeRequest_release (hw : r.work = .release) (data : List Byte) (s : State) :
    completeRequest r .done data s = freeEntry r.slot (s.setPool (s.pool.finished r .done data)) := by
  simp only [completeRequest, completionClaim, hw]
  rfl

section
variable (hf : s.pool.inFlight = some r)

include hf

theorem takePoolOutcome_accept (data : List Byte) :
    takePoolOutcome (.good 0x00 data) s = completeRequest r .done (doneData r.work data) s := by
  simp [takePoolOutcome, hf]

theorem takePoolOutcome_refused {status : Byte} (h : status ≠ 0x00) (data : List Byte) :
    takePoolOutcome (.good status data) s = s.setPool (s.pool.finished r .refused [status]) := by
  simp only [takePoolOutcome, hf, if_neg h]
  exact completeRequest_plain (o := .refused) (fun h => by cases h) _ _

theorem takePoolOutcome_again {o : LineOutcome} (ho : o = .silent ∨ o = .broken) (h : r.attempts < 3) :
    takePoolOutcome o s = s := by
  rcases ho with rfl | rfl <;> simp [takePoolOutcome, hf, h]

theorem takePoolOutcome_silent (h : 3 ≤ r.attempts) :
    takePoolOutcome .silent s = s.setPool (s.pool.finished r .noAnswer []) := by
  simp only [takePoolOutcome, hf, Nat.not_lt.2 h, if_false]
  exact completeRequest_plain (o := .noAnswer) (fun h => by cases h) _ _

theorem takePoolOutcome_broken (h : 3 ≤ r.attempts) :
    takePoolOutcome .broken s = s.setPool (s.pool.finished r .broken []) := by
  simp only [takePoolOutcome, hf, Nat.not_lt.2 h, if_false]
  exact completeRequest_plain (o := .broken) (fun h => by cases h) _ _

end

/-- R118: the entry once a describe of the pool is done. -/
theorem redescribedEntry_eq (d : Descriptor) (e : Entry) : redescribedEntry d e =
    match e.state with
    | .undescribed =>
      if e.gateSource = .provisional then
        { e with
          descriptor := some d
          state := .active
          gateMode := if d.kind = .actuator then .gated else .free
          gateSource := .kind
          gateOpen := false }
      else { e with descriptor := some d, state := .active }
    | .active => { e with descriptor := some d }
    | .paused => { e with descriptor := some d }
    | _ => e := by
  cases hs : e.state
  case undescribed =>
    by_cases hg : e.gateSource = .provisional
    · simp only [redescribedEntry, hs, kindDefault, if_pos hg]
      cases d.kind <;> rfl
    · simp only [redescribedEntry, hs, kindDefault, if_neg hg]
  all_goals simp only [redescribedEntry, hs]

@[simp] theorem raise_pool (k : FaultKind) (slot detail : Byte) (s : State) : (raise k slot detail s).pool = s.pool :=
  occur_pool ..

@[simp] theorem raise_survey (k : FaultKind) (slot detail : Byte) (s : State) :
    (raise k slot detail s).survey = s.survey := occur_survey ..

/-! ## The line once it is free -/

theorem lineAllows_free (h : s.wireHeld = false) : (s.nodesLeave.setTxn none).lineAllows = true := by
  have h' : (s.nodesLeave.setTxn none).wireHeld = false := h
  rw [State.lineAllows, h']
  rfl

theorem spaceDone_quiet (hu : x.user ≠ .owed) (hu' : x.user ≠ .survey) : spaceDone x s = s.nodesLeave.setTxn none := by
  unfold spaceDone
  dsimp only
  split
  · exact absurd ‹_› hu
  · exact absurd ‹_› hu'
  all_goals rfl

/-- R114: a further attempt goes before everything but the owed sends. -/
theorem service_attempt (ha : s.lineAllows = true) (ho : s.line.owed = []) (hl : s.line.state = .running ∨ s.line.state = .survey)
    (hf : s.pool.inFlight = some r) : service s = beginPoolAttempt r s := by
  rcases hl with hl | hl <;> simp [service, ha, ho, beginWork, hl, hf]

theorem startRequest_free {rest : List PoolRequest} (h : (s.entry r.slot).state = .free) : startRequest r rest s =
    (s.setLine { s.line with lastGrant := .pool }).setPool
      { queued := rest, inFlight := none, completed := s.pool.completed ++ [{ request := r, outcome := .nodeGone, data := [] }] } := by
  simp only [startRequest, h, completeRequest_nodeGone]
  rfl

theorem startRequest_lost {rest : List PoolRequest} (h : (s.entry r.slot).state = .lost) : startRequest r rest s =
    (s.setLine { s.line with lastGrant := .pool }).setPool
      { queued := rest, inFlight := none, completed := s.pool.completed ++ [{ request := r, outcome := .nodeLost, data := [] }] } := by
  simp only [startRequest, h, completeRequest_nodeLost]
  rfl

/-- A last request whose entry is not there completes at once, and nothing begins. -/
theorem arbitrate_absent {n : Nat} (hd : s.lowestDue = none) (hq : s.pool.queued = [r]) (hx : s.line.txn = none)
    (he : (s.entry r.slot).state = .free ∨ (s.entry r.slot).state = .lost) :
    arbitrate (n + 2) s = startRequest r [] s := by
  have hidle : (startRequest r [] s).line.txn.isSome = false ∧ (startRequest r [] s).pool.queued = [] ∧
      (startRequest r [] s).lowestDue = none := by
    have hdue : (startRequest r [] s).sched.due = s.sched.due := (served_startRequest r [] s).2
    refine ⟨?_, ?_, by rwa [State.lowestDue, funext fun i => show (startRequest r [] s).isDue i = s.isDue i by
      rw [State.isDue, hdue]; rfl]⟩
    · rcases he with h | h
      · rw [startRequest_free h]
        simp [State.setLine, State.setPool, hx]
      · rw [startRequest_lost h]
        simp [State.setLine, State.setPool, hx]
    · rcases he with h | h
      · rw [startRequest_free h]
        rfl
      · rw [startRequest_lost h]
        rfl
  obtain ⟨hfree, hqueue, hdue⟩ := hidle
  simp only [arbitrate, hd, hq, grantChoice, hfree, Bool.false_eq_true, if_false, hdue, hqueue]

/-! ## Outcomes of a survey's frames that are not good -/

theorem takeSeatOutcome_bad {q : Round} {o : LineOutcome} (h : seatGood q o = false) : takeSeatOutcome q o s =
    if q.attempts < 3 then s else s.setRound (some { q with phase := .clear, attempts := 0 }) := by
  rw [takeSeatOutcome, h, if_neg Bool.false_ne_true]
  by_cases hn : q.attempts < 3
  · rw [if_pos hn, if_neg (Nat.not_le.2 hn)]
  · rw [if_neg hn, if_pos (Nat.not_lt.1 hn)]

theorem takeDescribeOutcome_bad {q : Round} {o : LineOutcome} (hi : q.chosen = some i) (h : describeGood o = none) :
    takeDescribeOutcome q o s = if q.attempts < 3 then s else describeFailure q i s := by
  simp only [takeDescribeOutcome, hi, h]
  by_cases hn : q.attempts < 3
  · rw [if_pos hn, if_neg (Nat.not_le.2 hn)]
  · rw [if_neg hn, if_pos (Nat.not_lt.1 hn)]

section
variable {q : Round} (hround : s.survey.round = some q)

include hround

theorem takeSurveyOutcome_seat (hq : q.phase = .seat) (o : LineOutcome) :
    takeSurveyOutcome o s = takeSeatOutcome q o s := by simp only [takeSurveyOutcome, hround, hq]

theorem takeSurveyOutcome_describe (hq : q.phase = .describe) (o : LineOutcome) :
    takeSurveyOutcome o s = takeDescribeOutcome q o s := by simp only [takeSurveyOutcome, hround, hq]

theorem takeSurveyOutcome_clear (hq : q.phase = .clear) (o : LineOutcome) :
    takeSurveyOutcome o s = closeRound .failed q s := by simp only [takeSurveyOutcome, hround, hq]

end

theorem seatGood_broken (q : Round) : seatGood q .broken = false := rfl

theorem answerUnread_live (h : x.aborted = none) : answerUnread x = false := by simp [answerUnread, h]

/-- The phases in which a collision ends an addressed transaction that is not aborted. -/
theorem collision_phases (hp : x.phase = .send ∨ x.phase = .receive) (ht : x.frame.target = some i)
    (ha : x.aborted = none) : x.phase = .send ∧ x.frame.target.isSome = true ∨ x.phase = .receive ∧ answerUnread x = false :=
  hp.imp (fun h => ⟨h, by rw [ht]; rfl⟩) fun h => ⟨h, answerUnread_live ha⟩

end Sys2Proof.Machine

namespace Sys2Proof.Proofs

open Sys2Proof Sys2Proof.Machine

/-- Settles O41: the outcome goes to the pool, which completes its request or leaves it in flight. -/
theorem poolAnswersComplete : Obligations.PoolAnswersComplete := by
  intro s x i r chars data status ⟨hr, hx, hp, ha⟩ hu ht hf hn hstop sp completed judged
  have hgood : ∀ st, judged = .good st data → exec (.answerReceived chars) s = .next (takeHold (takePoolOutcome (.good st data) sp)) := by
    intro st hj
    rw [exec_answerReceived_good hr hx hp ha (by rw [expectedLength_target ht]; exact hj), frameBoundary_spaced_leave hstop,
      deliver_pool ha hu ht]
    rfl
  have hf' : sp.pool.inFlight = some r := hf
  refine ⟨fun hj hw1 hw2 => ?plain, fun hj hw => ?release, fun d hj hw hd => ?describe, fun hj hs => ?refused,
    fun hj hlt => ?broken, fun hlt => ?overrun⟩
  case plain =>
    rw [hgood _ hj, takePoolOutcome_accept hf', completeRequest_plain (fun _ => ⟨hw1, hw2⟩), takeHold_kept hn (sp.setPool _) rfl]
    rfl
  case release =>
    rw [hgood _ hj, takePoolOutcome_accept hf', completeRequest_release hw, hw, takeHold_kept hn (freeEntry r.slot (sp.setPool _)) rfl]
    rfl
  case describe =>
    rw [hgood _ hj, takePoolOutcome_accept hf', hw, doneData, completeRequest_describe hw hd,
      takeHold_kept hn (describeDone r.slot d (sp.setPool _)) rfl, describeDone, redescribedEntry_eq]
    rfl
  case refused =>
    rw [hgood _ hj, takePoolOutcome_refused hf' hs, takeHold_kept hn (sp.setPool _) rfl]
    rfl
  case broken =>
    rw [exec_answerReceived_broken hr hx hp ha (by rw [expectedLength_target ht]; exact hj),
      frameBoundary_spaced_leave hstop, raiseForFrame_target _ ht, deliver_pool ha hu ht,
      takePoolOutcome_again (r := r) (by rw [raise_pool]; exact hf) (.inr rfl) hlt]
    rfl
  case overrun =>
    rw [exec_twentyFirst hr hx hp ha, frameBoundary_spaced hstop, raiseForFrame_target _ ht, deliver_pool ha hu ht,
      takePoolOutcome_again (r := r) (by rw [raise_pool]; exact hf) (.inr rfl) hlt]
    rfl

/-- Settles O42: the third attempt that fails completes its request; a further one goes before the arbiter. -/
theorem poolAttemptsRunOut : Obligations.PoolAttemptsRunOut := by
  refine ⟨?attempts, ?spaces⟩
  case attempts =>
    intro s x i r hr hx ha hu ht hf hn hstop sp completed
    have hbroken : ∀ (k : FaultKind) (u : State), u.pool = s.pool → 3 ≤ r.attempts →
        deliver x .broken (raiseForFrame k x.frame u) =
          (raise k (slotByte i) (commandCode x.frame.command) u).setPool (completed .broken) := by
      intro k u hpool hle
      have hpool' : (raise k (slotByte i) (commandCode x.frame.command) u).pool = s.pool := (raise_pool ..).trans hpool
      rw [raiseForFrame_target k ht, deliver_pool ha hu ht, takePoolOutcome_broken (hpool'.symm ▸ hf) hle, hpool']
      rfl
    refine ⟨fun hp hlt => ?again, fun hp hle => ?noAnswer, fun chars hp hle hj => ?answer, fun hp hle => ?overrun,
      fun hp hle => ?collision⟩
    case again =>
      rw [exec_answerWindowExpiry hr hx hp, deliver_pool ha hu ht,
        takePoolOutcome_again (s := spaced x s) hf (.inl rfl) hlt, takeHold_kept hn (spaced x s) rfl]
      rfl
    case noAnswer =>
      rw [exec_answerWindowExpiry hr hx hp, deliver_pool ha hu ht, takePoolOutcome_silent (s := spaced x s) hf hle,
        takeHold_kept hn ((spaced x s).setPool _) rfl]
      rfl
    case answer =>
      rw [exec_answerReceived_broken hr hx hp ha (by rw [expectedLength_target ht]; exact hj),
        frameBoundary_spaced_leave hstop, hbroken _ (spaced x s.nodesLeave) rfl hle]
      rfl
    case overrun =>
      rw [exec_twentyFirst hr hx hp ha, frameBoundary_spaced hstop, hbroken _ (spaced x s) rfl hle]
      rfl
    case collision =>
      rw [exec_collision_addressed hr hx (collision_phases hp ht ha), frameBoundary_spaced hstop, hbroken _ (spaced x s) rfl hle]
      rfl
  case spaces =>
    intro s x r hr hx hp hu hu' hn hw ho free
    have hallows : free.lineAllows = true := lineAllows_free hw
    have hend : exec .spaceEnd s = .next (service free) := by
      rw [exec_spaceEnd_space hr hx hp, spaceDone_quiet hu hu', settle_service (s := s.nodesLeave.setTxn none) hn]
    refine ⟨fun hl hf => ?attempt, fun hl hf hk hq hd => ?absent⟩
    case attempt =>
      rw [hend, service_attempt (s := free) hallows ho hl hf]
      rfl
    case absent =>
      have hserve : (s.entry r.slot).state = .free ∨ (s.entry r.slot).state = .lost →
          service free = startRequest r [] free := fun he => by
        rw [service_running (s := free) hallows ho hl hk hf, show free.pool.queued.length = 1 by
          rw [show free.pool.queued = [r] from hq]; rfl]
        exact arbitrate_absent (s := free) (n := 0) hd hq rfl he
      refine ⟨fun he => ?_, fun he => ?_⟩
      · rw [hend, hserve (.inl he), startRequest_free (s := free) he]
        rfl
      · rw [hend, hserve (.inr he), startRequest_lost (s := free) he]
        rfl

/-- Settles O43: by the phase that the collision meets, and in a survey by the phase of its round. -/
theorem collisionsAreRaised : Obligations.CollisionsAreRaised := by
  refine ⟨fun s x hr hx hn => ⟨fun i r hp hu ha ht hf hlt hstop => ?pool, fun hp ht hu hstop => ?broadcast,
    fun r hp hu hframe hround hphase hstop => ?skip, fun i r hp hu ha ht hround hstop => ?survey,
    fun hp hh => exec_collision_space hr hx hp hh, fun hp hh => exec_collision_spaceAgain hr hx hp hh⟩,
    fun s hr hx => ⟨fun hs => ?idle, fun hs => ?stuck⟩⟩
  case pool =>
    rw [exec_collision_addressed hr hx (collision_phases hp ht ha), frameBoundary_spaced hstop, raiseForFrame_target _ ht,
      deliver_pool ha hu ht, takePoolOutcome_again (r := r) (by rw [raise_pool]; exact hf) (.inr rfl) hlt]
    rfl
  case broadcast =>
    rw [exec_collision_broadcast hr hx hp ht hu, frameBoundary_spaced hstop, raiseForFrame, frameAddress_broadcast ht]
    rfl
  case skip =>
    have ht : x.frame.target = none := by rw [hframe]
    have hc : x.frame.command = .skip := by rw [hframe]
    rw [exec_collision_survey hr hx hp ht hu, frameBoundary_spaced hstop, raiseForFrame, frameAddress_broadcast ht, hc,
      takeBroadcastOutcome_skip (r := r) (by rw [raise_survey]; exact hround) hphase]
    rfl
  case survey =>
    intro raised
    have hsurvey : raised.survey = s.survey := raise_survey ..
    have hround' : raised.survey.round = some r := hsurvey ▸ hround
    have hcollide : exec .collision s = .next (takeHold (takeSurveyOutcome .broken raised)) := by
      rw [exec_collision_addressed hr hx (collision_phases hp ht ha), frameBoundary_spaced hstop,
        raiseForFrame_target _ ht, deliver_survey ha hu ht]
      rfl
    refine ⟨fun hq => ?seat, fun hq hi => ?describe, fun hq => ?clear⟩
    case seat => rw [hcollide, takeSurveyOutcome_seat hround' hq, takeSeatOutcome_bad (seatGood_broken r)]
    case describe =>
      rw [hcollide, takeSurveyOutcome_describe hround' hq, takeDescribeOutcome_bad hi rfl, describeFailure, hsurvey]
    case clear =>
      rw [hcollide, takeSurveyOutcome_clear hround' hq]
      rfl
  case idle => rw [exec_collision_idle hr hx, lineHeldLow, hs, if_neg Bool.false_ne_true]
  case stuck => rw [exec_collision_idle hr hx, lineHeldLow, hs, if_pos rfl]

end Sys2Proof.Proofs
end
section
/-! PROOFS. The end of SPACE and what begins on the free line, the repeats and the stuck episodes, and work that was
stopped. -/

namespace Sys2Proof.Machine

variable {s : State} {x : Transaction}

/-! ## What the end of an owed send's frame leaves (R37, R128, R137) -/

theorem spaceDone_owed (hu : x.user = .owed) : spaceDone x s = owedFrameDone (s.nodesLeave.setTxn none) := by
  simp [spaceDone, hu]

theorem owedFrameDone_more {o : OwedSend} {rest : List OwedSend} (ho : s.line.owed = o :: rest)
    (hn : o.framesBegun < owedFrames o.command) : owedFrameDone s = s := by
  simp only [owedFrameDone, ho, if_neg (Nat.not_le.2 hn)]

theorem owedFrameDone_last {o : OwedSend} {rest : List OwedSend} (ho : s.line.owed = o :: rest)
    (hn : owedFrames o.command ≤ o.framesBegun) :
    owedFrameDone s = owedDone o.command (s.setLine { s.line with owed := rest }) := by
  simp only [owedFrameDone, ho, if_pos hn]

theorem startHaltTimer_eq (s : State) : startHaltTimer s =
    if s.line.state = .held ∧ ∀ p ∈ s.line.owed, p.command ≠ .halt then s.setLine { s.line with haltTimer := true }
    else s := by
  have hall : s.line.owed.all (fun o => decide (o.command ≠ .halt)) = true ↔ ∀ p ∈ s.line.owed, p.command ≠ .halt := by
    simp
  simp only [startHaltTimer, hall]

/-- What the end of a SPACE leaves as it was, for all that waits for the line. -/
structure SpaceLeft (s t : State) : Prop where
  txn : t.line.txn = none
  wireHeld : t.wireHeld = s.wireHeld
  faults : t.faults = s.faults
  link : t.link = s.link
  survey : t.survey = s.survey
  pool : t.pool = s.pool
  state : t.line.state = s.line.state
  keepWaiting : t.line.keepWaiting = s.line.keepWaiting
  haltWaiting : t.line.haltWaiting = s.line.haltWaiting
  lastGrant : t.line.lastGrant = s.line.lastGrant

theorem spaceLeft_free (s : State) : SpaceLeft s (s.nodesLeave.setTxn none) :=
  ⟨rfl, rfl, rfl, rfl, rfl, rfl, rfl, rfl, rfl, rfl⟩

theorem spaceLeft_owedDone (c : OwedCommand) (rest : List OwedSend) (s : State) :
    SpaceLeft s (owedDone c ((s.nodesLeave.setTxn none).setLine { (s.nodesLeave.setTxn none).line with owed := rest })) := by
  cases c
  case halt =>
    rw [owedDone, startHaltTimer_eq]
    split <;> exact ⟨rfl, rfl, rfl, rfl, rfl, rfl, rfl, rfl, rfl, rfl⟩
  all_goals exact ⟨rfl, rfl, rfl, rfl, rfl, rfl, rfl, rfl, rfl, rfl⟩

section
variable {t : State} (h : SpaceLeft s t)

include h

theorem SpaceLeft.allows (hw : s.wireHeld = false) : t.lineAllows = true := by
  rw [State.lineAllows, h.txn, h.wireHeld, hw]
  rfl

theorem SpaceLeft.settles (hn : s.noHoldAsked) : settle t = service t :=
  settle_service ((congrArg (·.holdAsked) h.faults).trans hn)

end

/-! ## What begins on a free line -/

theorem service_owed {o : OwedSend} {rest : List OwedSend} (ha : s.lineAllows = true) (ho : s.line.owed = o :: rest) :
    service s = beginOwed o rest s := by simp only [service, ha, ho, if_true]

theorem service_held (ha : s.lineAllows = true) (ho : s.line.owed = []) (hl : s.line.state = .held) :
    service s = if s.line.haltWaiting then beginFrame (broadcast .halt) .haltRepeat s else s := by
  simp only [service, ha, ho, if_true, beginWork, hl]

theorem service_keep (ha : s.lineAllows = true) (ho : s.line.owed = []) (hl : s.line.state = .running)
    (hf : s.pool.inFlight = none) (hk : s.line.keepWaiting = true) :
    service s = beginFrame (broadcast .keep) .keepAlive s := by
  simp only [service, ha, ho, if_true, beginWork, hl, hf, hk]

/-! ## The repeats (R36, R37) -/

theorem exec_keep (hr : s.start.phase = .running) : exec .keep s = .next (keepDue s) := by
  show Host.Outcome.next (whenLive _ s) = _
  rw [whenLive_running _ hr]

theorem exec_haltRepeat (hr : s.start.phase = .running) : exec .haltRepeat s = .next (haltDue s) := by
  show Host.Outcome.next (whenLive _ s) = _
  rw [whenLive_running _ hr]

theorem workWaits_eq_false_iff : s.workWaits = false ↔
    s.pool.inFlight = none ∧ s.pool.queued = [] ∧ ∀ i : Slot, s.isDue i = false := by
  have hdue : s.lowestDue.isSome = false ↔ ∀ i : Slot, s.isDue i = false := by
    rw [Option.isSome_eq_false_iff, Option.isNone_iff_eq_none]
    refine ⟨fun h i => ?_, lowestDue_eq_none⟩
    simpa using List.find?_eq_none.1 h i (mem_slots i)
  simp only [State.workWaits, Bool.or_eq_false_iff, hdue, and_assoc, Option.isSome_eq_false_iff,
    Option.isNone_iff_eq_none, decide_eq_false_iff_not, Classical.not_not]

theorem quiet_of_space (h : ∀ x, s.line.txn = some x → x.phase = .space) : s.quiet = true := by
  unfold State.quiet
  split
  · rfl
  · rename_i t ht
    simpa using h t ht

theorem lineAllows_wireHeld (h : s.wireHeld = true) : s.lineAllows = false := by simp [State.lineAllows, h]

/-- A KEEP that is due. -/
theorem keepDue_due (hl : s.line.state = .running) (hs : s.line.silence = true) (ho : s.line.owed = [])
    (hw : s.workWaits = false) : keepDue s =
      if s.lineAllows then beginFrame (broadcast .keep) .keepAlive s
      else if s.wireHeld ∧ s.quiet then s.setLine { s.line with keepWaiting := true } else s :=
  if_pos ⟨hl, hs, ho, hw⟩

theorem keepDue_waits (h : s.workWaits = true) : keepDue s = s :=
  if_neg fun ⟨_, _, _, hw⟩ => by rw [h] at hw; cases hw

/-- A HALT repeat that is due. -/
theorem haltDue_due (hl : s.line.state = .held) (ht : s.line.haltTimer = true) (ho : s.line.owed = []) : haltDue s =
    if s.lineAllows then beginFrame (broadcast .halt) .haltRepeat s
    else if s.quiet then s.setLine { s.line with haltWaiting := true } else s :=
  if_pos ⟨hl, ht, ho⟩

/-! ## Stuck episodes (R46) -/

theorem exec_lineStuck (hr : s.start.phase = .running) : exec .lineStuck s = .next (lineSticks s) := by
  show Host.Outcome.next (whenLive _ s) = _
  rw [whenLive_running _ hr]

theorem exec_stuckEpisodeEnd (hr : s.start.phase = .running) : exec .stuckEpisodeEnd s = .next (stuckEnds s) := by
  show Host.Outcome.next (whenLive _ s) = _
  rw [whenLive_running _ hr]

theorem takeHold_wireHeld (s : State) : (takeHold s).wireHeld = s.wireHeld := by
  unfold takeHold
  split
  · by_cases hl : s.line.state = .held
    · rw [holdEntry_held (s := { s with faults := { s.faults with holdAsked := false } }) hl]
      rfl
    · rw [holdEntry_eq (s := { s with faults := { s.faults with holdAsked := false } }) hl]
      rfl
  · rfl

/-- R46: on a line that is held dominant nothing begins; only a hold that is asked for is taken. -/
theorem settle_wireHeld (h : s.wireHeld = true) : settle s = takeHold s := by
  rw [settle, service_wireHeld (by rw [takeHold_wireHeld, h])]

/-- The mark that a stuck line leaves on a transaction. -/
def stuckMark (t : Transaction) : Transaction := if t.phase = .contest then { t with contestBroken := true } else t

theorem lineSticks_again (h : s.line.stuck = true) : lineSticks s = s := if_pos h

theorem lineSticks_first (h : s.line.stuck = false) : lineSticks s =
    takeHold (raise .lineStuck 0 0
      (s.setLine { s.line with stuck := true, dominant := false, txn := s.line.txn.map stuckMark })) := by
  rw [lineSticks, h, if_neg Bool.false_ne_true]
  refine settle_wireHeld ?_
  rw [State.wireHeld, raise_line]
  rfl

theorem stuckMark_other {o : Option Transaction} (h : ∀ x, o = some x → x.phase ≠ .contest) : o.map stuckMark = o := by
  cases o with
  | none => rfl
  | some x => exact congrArg some (if_neg (h x rfl))

/-- The line with nothing that holds it dominant. -/
def cleared (s : State) : State := s.setLine { s.line with stuck := false, dominant := false }

theorem stuckEnds_idle (hs : s.line.stuck = true) (hx : s.line.txn = none) : stuckEnds s = settle (cleared s) := by
  rw [stuckEnds, if_pos hs]
  dsimp only
  split
  · rename_i t ht
    cases hx.symm.trans ht
  · rfl

theorem spaceEnds_idle (hs : s.line.stuck = false) (hd : s.line.dominant = true) (hx : s.line.txn = none) :
    spaceEnds s = settle (cleared s) := by
  rw [spaceEnds, hx]
  show lineLetGo s = _
  rw [lineLetGo, if_pos hd, cleared, ← hs]

theorem lineAllows_cleared (hx : s.line.txn = none) : (cleared s).lineAllows = true := by
  have hx' : (cleared s).line.txn = none := hx
  rw [State.lineAllows, hx']
  rfl

/-! ## Work that was stopped (R34, R63) -/

theorem exec_contestEnd (hr : s.start.phase = .running) (hx : s.line.txn = some x) (hp : x.phase = .contest)
    (lead : BitVec 2) (slots : BitVec 168) : exec (.contestEnd lead slots) s =
      .next
        (settle
          (frameBoundary
            (takeReading (readingOf (s.contestReading slots) (s.contestHit lead slots || x.contestBroken))
              (if s.contestHit lead slots || x.contestBroken then
                raiseForFrame .badCheck x.frame (spaced x (s.nodesContend (s.contestReading slots)))
              else spaced x (s.nodesContend (s.contestReading slots)))))) := by
  show Host.Outcome.next (whenLive _ s) = _
  rw [whenLive_running _ hr, contestEnds, onPhase_eq _ hx hp]
  rfl

/-- R63: a survey that was told to stop judges no reading. -/
theorem takeReading_stopped (h : s.survey.stopping = true) (reading : Reading) : takeReading reading s = s := by
  unfold takeReading
  split
  · exact if_pos (.inl h)
  · rfl

end Sys2Proof.Machine

namespace Sys2Proof.Proofs

open Sys2Proof Sys2Proof.Machine

/-- Settles O44: what the SPACE leaves, and then what waits for the line, in its order. -/
theorem spaceEndsFreeTheLine : Obligations.SpaceEndsFreeTheLine := by
  refine ⟨?more, ?left⟩
  case more =>
    intro s x o rest hr hx hp hn hw hu ho hlt
    rw [exec_spaceEnd_space hr hx hp, spaceDone_owed hu, owedFrameDone_more (s := s.nodesLeave.setTxn none) ho hlt,
      (spaceLeft_free s).settles hn, service_owed (s := s.nodesLeave.setTxn none) ((spaceLeft_free s).allows hw) ho]
  case left =>
    intro s x t hr hx hp hn hw hleft
    have hdone : spaceDone x s = t ∧ SpaceLeft s t := by
      rcases hleft with ⟨hu, hu', rfl⟩ | ⟨o, rest, hu, ho, hle, ht⟩
      · exact ⟨spaceDone_quiet hu hu', spaceLeft_free s⟩
      · have heq : spaceDone x s = t := by
          rw [spaceDone_owed hu, owedFrameDone_last (s := s.nodesLeave.setTxn none) ho hle, ht]
          cases o.command
          case halt =>
            rw [owedDone, startHaltTimer_eq]
            rfl
          all_goals rfl
        refine ⟨heq, heq ▸ ?_⟩
        rw [spaceDone_owed hu, owedFrameDone_last (s := s.nodesLeave.setTxn none) ho hle]
        exact spaceLeft_owedDone o.command rest s
    obtain ⟨heq, ht⟩ := hdone
    have hend : exec .spaceEnd s = .next (service t) := by
      rw [exec_spaceEnd_space hr hx hp, heq, ht.settles hn]
    have ha := ht.allows hw
    refine ⟨fun p later ho => ?owed, fun ho => ⟨fun hl => ?off, fun hl => ?held, fun hl hf hk => ?keep,
      fun hl hk hf => ⟨fun hq hd => ?rests, fun i hi hmin hq => ?poll, fun r rest hq hd he1 he2 => ?pool⟩,
      fun hl hf => ⟨fun hrep => ?waits, fun hrep hround => ?call⟩⟩⟩
    case owed => rw [hend, service_owed ha ho]
    case off => rw [hend, service_off (ht.state.trans hl) ho]
    case held =>
      rw [hend, service_held ha ho (ht.state.trans hl), ht.haltWaiting]
      rfl
    case keep =>
      rw [hend, service_keep ha ho (ht.state.trans hl) (ht.pool ▸ hf) (ht.keepWaiting.trans hk)]
      rfl
    case waits =>
      rw [hend, service_surveyReplyOwed (ht.state.trans hl) ho (ht.pool ▸ hf)
        (by rw [State.surveyReplyOwed, ht.link]; exact hrep)]
    case call =>
      rw [hend, service_beginRound ha (ht.state.trans hl) ho (ht.pool ▸ hf)
        (by rw [State.surveyReplyOwed, ht.link]; exact hrep) (ht.survey ▸ hround), beginRound, ht.survey]
      rfl
    all_goals
      have hserve := service_running ha ho (ht.state.trans hl) (ht.keepWaiting.trans hk) (ht.pool ▸ hf)
    case rests => rw [hend, hserve, arbitrate_rests (lowestDue_eq_none hd) (ht.pool ▸ hq)]
    case poll =>
      rw [hend, hserve, arbitrate_poll (lowestDue_eq_some hi hmin) (by rw [ht.pool, ht.lastGrant]; exact hq), grantPoll]
      rfl
    case pool =>
      have hqueue : t.pool.queued = r :: rest := ht.pool ▸ hq
      rw [hend, hserve, arbitrate_pool hqueue (hd.imp lowestDue_eq_none fun h => ht.lastGrant.trans h) he1 he2,
        startRequest_present he1 he2, ht.pool]
      rfl

/-- Settles O45: the repeats, the stuck episode and its end. -/
theorem repeatsAndStuckEpisodes : Obligations.RepeatsAndStuckEpisodes := by
  refine ⟨fun s hr ho => ⟨fun hl hs hf hq hd => ⟨fun ha => ?keep, fun hw hquiet => ?keepWaits⟩, fun hl hwork => ?noKeep,
    fun hl ht ha => ?halt, fun hl ht ha hquiet => ?haltWaits⟩,
    fun s hr hn => ⟨fun h => ?again, fun h hx => ?sticks, fun x h hx hp => ?contest⟩, fun s hr hn hx => ?ends⟩
  case keep =>
    rw [exec_keep hr, keepDue_due hl hs ho (workWaits_eq_false_iff.2 ⟨hf, hq, hd⟩), if_pos ha]
    rfl
  case keepWaits =>
    rw [exec_keep hr, keepDue_due hl hs ho (workWaits_eq_false_iff.2 ⟨hf, hq, hd⟩), lineAllows_wireHeld hw,
      if_neg Bool.false_ne_true, if_pos ⟨hw, quiet_of_space hquiet⟩]
  case noKeep =>
    rw [exec_keep hr, keepDue_waits]
    rw [← Bool.not_eq_false, workWaits_eq_false_iff]
    rintro ⟨hf, hq, hd⟩
    rcases hwork with h | h | ⟨i, h⟩
    · exact h hf
    · exact h hq
    · rw [hd i] at h
      cases h
  case halt =>
    rw [exec_haltRepeat hr, haltDue_due hl ht ho, if_pos ha]
    rfl
  case haltWaits =>
    rw [exec_haltRepeat hr, haltDue_due hl ht ho, ha, if_neg Bool.false_ne_true, if_pos (quiet_of_space hquiet)]
  case again => rw [exec_lineStuck hr, lineSticks_again h]
  case sticks => rw [exec_lineStuck hr, lineSticks_first h, stuckMark_other hx]
  case contest =>
    rw [exec_lineStuck hr, lineSticks_first h, hx, Option.map_some, stuckMark, if_pos hp]
  case ends =>
    intro clear
    have ha : clear.lineAllows = true := lineAllows_cleared hx
    have hstuck : s.line.stuck = true → exec .stuckEpisodeEnd s = .next (service clear) := fun hs => by
      rw [exec_stuckEpisodeEnd hr, stuckEnds_idle hs hx, settle_service (s := cleared s) hn]
      rfl
    have hlow : s.line.stuck = false → s.line.dominant = true → exec .spaceEnd s = .next (service clear) := fun hs hd => by
      rw [exec_spaceEnd hr, spaceEnds_idle hs hd hx, settle_service (s := cleared s) hn]
      rfl
    refine ⟨fun ho hl => ?off, fun o rest ho => ?owed, fun r hs ho hl hf => ?attempt, fun hs ho hl hf hk => ?keepClear,
      fun hs ho hl hw => ?haltClear⟩
    case off =>
      have hrest : service clear = clear := service_off (s := clear) hl ho
      exact ⟨fun hs => by rw [hstuck hs, hrest], fun hs hd => by rw [hlow hs hd, hrest]⟩
    case owed =>
      have hbegin : service clear = beginOwed o rest clear := service_owed (s := clear) ha ho
      exact ⟨fun hs => by rw [hstuck hs, hbegin], fun hs hd => by rw [hlow hs hd, hbegin]⟩
    case attempt =>
      rw [hstuck hs, service_attempt (s := clear) ha ho hl hf]
      rfl
    case keepClear =>
      rw [hstuck hs, service_keep (s := clear) ha ho hl hf hk]
      rfl
    case haltClear =>
      rw [hstuck hs, service_held (s := clear) ha ho hl, if_pos (show clear.line.haltWaiting = true from hw)]
      rfl

/-- Settles O46: an aborted transaction hands nothing over, and a survey told to stop stops at its boundary. -/
theorem stoppedWorkIsNotJudged : Obligations.StoppedWorkIsNotJudged := by
  refine ⟨fun s x hr hx ha hn => ?aborted, fun s x lead slots hr hx hp hstop hn => ?contest, fun s => ⟨fun h => ?noRound,
    fun h => frameBoundary_none h, fun h => ?stops⟩⟩
  case aborted =>
    intro sp
    refine ⟨fun chars hp => ?answer, fun hp => ?window, fun hp => exec_twentyFirst_aborted hr hx hp ha,
      fun hp => ?collision, fun hp hne => ?unread⟩
    case answer =>
      rw [exec_answerReceived_aborted hr hx hp ha, takeHold_kept hn (frameBoundary (spaced x s.nodesLeave)) (frameBoundary_faults _)]
      rfl
    case window =>
      rw [exec_answerWindowExpiry hr hx hp, deliver_aborted ha, takeHold_kept hn (spaced x s) rfl]
      rfl
    case collision =>
      have hphases : x.phase = .send ∧ x.frame.target.isSome = true ∨ x.phase = .receive ∧ answerUnread x = false :=
        hp.imp_right fun ⟨h, h'⟩ => ⟨h, by simp [answerUnread, h']⟩
      rw [exec_collision_addressed hr hx hphases, deliver_aborted ha]
      rfl
    case unread =>
      obtain ⟨p, hap⟩ := Option.isSome_iff_exists.1 ha
      have hunread : answerUnread x = true := by
        have hpne : p ≠ .receive := fun h => hne (h ▸ hap)
        simp [answerUnread, hap, hpne]
      exact exec_collision_unread hr hx hp hunread
  case contest =>
    intro broken sp
    have hfree : takeHold (frameBoundary sp) = frameBoundary sp :=
      takeHold_none ((congrArg (·.holdAsked) (frameBoundary_faults sp)).trans hn)
    refine ⟨fun hb => ?good, fun hb => ?bad⟩
    case good =>
      rw [exec_contestEnd hr hx hp, if_neg (by rw [Bool.not_eq_true]; exact hb),
        takeReading_stopped (s := spaced x (s.nodesContend (s.contestReading slots))) hstop,
        settle_ofLine (frameBoundary_line _)]
      exact congrArg Host.Outcome.next hfree
    case bad =>
      have hstop' : (raiseForFrame .badCheck x.frame (spaced x (s.nodesContend (s.contestReading slots)))).survey.stopping =
          true := by
        rw [raiseForFrame, raise_survey]
        exact hstop
      have hline : (frameBoundary (raiseForFrame .badCheck x.frame
          (spaced x (s.nodesContend (s.contestReading slots))))).line =
          (spaced x (s.nodesContend (s.contestReading slots))).line := (frameBoundary_line _).trans (raise_line ..)
      rw [exec_contestEnd hr hx hp, if_pos hb, takeReading_stopped hstop', settle_ofLine hline]
      rfl
  case noRound => simp [State.surveyFrameRuns, h]; split <;> rfl
  case stops =>
    rw [frameBoundary_stops h]
    exact ⟨surveyStopped_surveyStops s, surveyStops_line s, surveyStops_dir s, surveyStops_sched s, surveyStops_store s,
      surveyStops_pool s, surveyStops_faults s, surveyStops_nodes s, surveyStops_start s, surveyStops_settings s⟩

end Sys2Proof.Proofs
end
section
/-! PROOFS. Contest readings and the choice of a slot. -/

namespace Sys2Proof.Machine

variable {s : State} {x : Transaction} {r : Round}

/-! ## The word of a contest (R41, R43) -/

theorem contestWord_toNat (w : Identity) :
    (contestWord w).toNat = w.toNat * 256 + (crc8 (identityBytes w)).toNat := by
  rw [contestWord, BitVec.toNat_ofNat, Nat.mod_eq_of_lt]
  have hw := w.isLt
  have hc := (crc8 (identityBytes w)).isLt
  omega

theorem readingIdentity_contestWord (w : Identity) : readingIdentity (contestWord w) = w := by
  have hc := (crc8 (identityBytes w)).isLt
  rw [readingIdentity, contestWord_toNat, show (w.toNat * 256 + (crc8 (identityBytes w)).toNat) / 256 = w.toNat by omega,
    BitVec.ofNat_toNat, BitVec.setWidth_eq]

theorem readingCheck_contestWord (w : Identity) : readingCheck (contestWord w) = crc8 (identityBytes w) := by
  refine BitVec.eq_of_toNat_eq ?_
  have hc := (crc8 (identityBytes w)).isLt
  rw [readingCheck, contestWord_toNat, BitVec.toNat_ofNat]
  omega

/-- Only the empty reading has no identity and no check. -/
theorem reading_eq_zero {levels : BitVec 56} (hi : readingIdentity levels = 0) (hc : readingCheck levels = 0) :
    levels = 0 := by
  have hlt := levels.isLt
  have hi' := congrArg BitVec.toNat hi
  have hc' := congrArg BitVec.toNat hc
  rw [readingIdentity, BitVec.toNat_ofNat] at hi'
  rw [readingCheck, BitVec.toNat_ofNat] at hc'
  refine BitVec.eq_of_toNat_eq ?_
  simp at hi' hc' ⊢
  omega

/-! ## The judgement of a reading (R53 to R55) -/

/-- The round with its reading taken. -/
def readRound (r : Round) (reading : Reading) : Round := { r with reading := some reading }

theorem takeReading_contest (hround : s.survey.round = some r) (hp : r.phase = .contest) (hs : s.survey.stopping = false)
    (reading : Reading) : takeReading reading s = judgeReading r reading s := by
  have hjudged : ¬ (s.survey.stopping = true ∨ r.phase ≠ .contest) := by simp [hs, hp]
  simp only [takeReading, hround, if_neg hjudged]

theorem judgeReading_broken (r : Round) (s : State) :
    judgeReading r .broken s = closeRound .failed (readRound r .broken) s := rfl

theorem judgeReading_invalid {w : Identity} {check : Byte} (hne : ¬ (w = 0 ∧ check = 0))
    (h : w = 0 ∨ crc8 (identityBytes w) ≠ check) (r : Round) (s : State) :
    judgeReading r (.clean w check) s = closeRound .failed (readRound r (.clean w check)) s := by
  by_cases hw : w = 0
  · have hc : check ≠ 0 := fun hc => hne ⟨hw, hc⟩
    simp only [judgeReading, if_pos hw, if_neg hc, readRound]
  · simp only [judgeReading, if_neg hw, if_pos (h.resolve_left hw), readRound]

theorem judgeReading_empty (r : Round) (s : State) : judgeReading r (.clean 0 0) s = finishSurvey .complete s := rfl

theorem judgeReading_winner {w : Identity} (hw : w ≠ 0) (r : Round) (s : State) :
    judgeReading r (.clean w (crc8 (identityBytes w))) s =
      takeWinner (readRound r (.clean w (crc8 (identityBytes w)))) w s := by
  simp only [judgeReading, if_neg hw, ne_eq, not_true_eq_false, if_false]
  rfl

theorem takeWinner_chosen {w : Identity} {i : Slot} (h : s.slotChoice w = some i) (r : Round) :
    takeWinner r w s = s.setRound (some { r with phase := .seat, chosen := some i, attempts := 0 }) := by
  simp only [takeWinner, h]

theorem takeWinner_full {w : Identity} (h : s.slotChoice w = none) (r : Round) : takeWinner r w s =
    raise .directoryFull 0 (BitVec.ofNat 8 w.toNat)
      (s.setRound (some { r with phase := .skip, chosen := none, attempts := 0 })) := by
  simp only [takeWinner, h]

/-! ## The slot choice (R54) -/

theorem slotHolding_none {w : Identity} (h : ∀ j : Slot, (s.entry j).state ≠ .free → (s.entry j).identity ≠ some w) :
    s.slotHolding w = none :=
  List.find?_eq_none.2 fun j _ => by
    by_cases hj : (s.entry j).state = .free
    · simp [hj]
    · simp [hj, h j hj]

theorem slotBound_none {w : Identity} (h : ∀ j : Slot, (s.entry j).state = .free → cell s.dir.bindings j ≠ some w) :
    s.slotBound w = none :=
  List.find?_eq_none.2 fun j _ => by
    by_cases hj : (s.entry j).state = .free
    · simp [hj, h j hj]
    · simp [hj]

theorem slotUnbound_none (h : ∀ j : Slot, (s.entry j).state = .free → (cell s.dir.bindings j).isSome = true) :
    s.slotUnbound = none :=
  List.find?_eq_none.2 fun j _ => by
    by_cases hj : (s.entry j).state = .free
    · simp [Option.isSome_iff_ne_none.1 (h j hj)]
    · simp [hj]

/-- Step 1: an entry that holds the identity. -/
theorem slotChoice_holding {w : Identity} {i : Slot} (hf : (s.entry i).state ≠ .free)
    (hi : (s.entry i).identity = some w) :
    ∃ j : Slot, s.slotChoice w = some j ∧ (s.entry j).state ≠ .free ∧ (s.entry j).identity = some w := by
  obtain ⟨j, hj, hfound, -⟩ := find_slots
    (p := fun i => decide ((s.entry i).state ≠ .free) && decide ((s.entry i).identity = some w)) (i := i) (by simp [hf, hi])
  have hholding : s.slotHolding w = some j := hj
  simp only [Bool.and_eq_true, decide_eq_true_eq] at hfound
  exact ⟨j, by simp only [State.slotChoice, hholding], hfound⟩

/-- Step 2: a FREE slot that a binding names for the identity. -/
theorem slotChoice_bound {w : Identity} {i : Slot}
    (h : ∀ j : Slot, (s.entry j).state ≠ .free → (s.entry j).identity ≠ some w) (hf : (s.entry i).state = .free)
    (hb : cell s.dir.bindings i = some w) :
    ∃ j : Slot, s.slotChoice w = some j ∧ (s.entry j).state = .free ∧ cell s.dir.bindings j = some w := by
  obtain ⟨j, hj, hfound, -⟩ := find_slots
    (p := fun i => decide ((s.entry i).state = .free) && decide (cell s.dir.bindings i = some w)) (i := i) (by simp [hf, hb])
  have hbound : s.slotBound w = some j := hj
  simp only [Bool.and_eq_true, decide_eq_true_eq] at hfound
  exact ⟨j, by simp only [State.slotChoice, slotHolding_none h, hbound], hfound⟩

/-- Step 3: the lowest FREE slot that no binding names. -/
theorem slotChoice_unbound {w : Identity} {i : Slot}
    (h : ∀ j : Slot, (s.entry j).state ≠ .free → (s.entry j).identity ≠ some w)
    (h' : ∀ j : Slot, (s.entry j).state = .free → cell s.dir.bindings j ≠ some w) (hf : (s.entry i).state = .free)
    (hb : cell s.dir.bindings i = none) :
    ∃ j : Slot, s.slotChoice w = some j ∧ j ≤ i ∧ (s.entry j).state = .free ∧ cell s.dir.bindings j = none := by
  obtain ⟨j, hj, hfound, hle⟩ := find_slots
    (p := fun i => decide ((s.entry i).state = .free) && (cell s.dir.bindings i).isNone) (i := i) (by simp [hf, hb])
  have hunbound : s.slotUnbound = some j := hj
  simp only [Bool.and_eq_true, decide_eq_true_eq, Option.isNone_iff_eq_none] at hfound
  exact ⟨j, by simp only [State.slotChoice, slotHolding_none h, slotBound_none h', hunbound], hle, hfound⟩

theorem slotChoice_none {w : Identity} (h : ∀ j : Slot, (s.entry j).state ≠ .free → (s.entry j).identity ≠ some w)
    (h' : ∀ j : Slot, (s.entry j).state = .free → ∃ y, y ≠ w ∧ cell s.dir.bindings j = some y) :
    s.slotChoice w = none := by
  have hbound : s.slotBound w = none := slotBound_none fun j hj hx => by
    obtain ⟨y, hy, hb⟩ := h' j hj
    exact hy (Option.some.inj (hb.symm.trans hx))
  have hunbound : s.slotUnbound = none := slotUnbound_none fun j hj => by
    obtain ⟨y, -, hb⟩ := h' j hj
    rw [hb]
    rfl
  simp only [State.slotChoice, slotHolding_none h, hbound, hunbound]

/-! ## The end of a contest -/

/-- A contest of a survey that goes on: the reading is judged, and a hold that is asked for is taken. -/
theorem exec_contestEnd_judged (hr : s.start.phase = .running) (hx : s.line.txn = some x) (hp : x.phase = .contest)
    (hround : s.survey.round = some r) (hq : r.phase = .contest) (hs : s.survey.stopping = false) (lead : BitVec 2)
    (slots : BitVec 168) : exec (.contestEnd lead slots) s =
      .next
        (settle
          (frameBoundary
            (judgeReading r (readingOf (s.contestReading slots) (s.contestHit lead slots || x.contestBroken))
              (if s.contestHit lead slots || x.contestBroken then
                raiseForFrame .badCheck x.frame (spaced x (s.nodesContend (s.contestReading slots)))
              else spaced x (s.nodesContend (s.contestReading slots)))))) := by
  have hsurvey : ∀ b : Bool, (if b then
      raiseForFrame .badCheck x.frame (spaced x (s.nodesContend (s.contestReading slots)))
      else spaced x (s.nodesContend (s.contestReading slots))).survey = s.survey := by
    intro b
    cases b
    · rfl
    · exact raise_survey ..
  rw [exec_contestEnd hr hx hp, takeReading_contest (r := r) (by rw [hsurvey, hround]) hq (by rw [hsurvey, hs])]

/-- A judgement that leaves the line and the survey's going on alone ends the event. -/
theorem next_judged {e : Instr} {t u : State} (hexec : exec e s = .next (settle (frameBoundary t)))
    (hl : t.line = (spaced x u).line) (hs : t.survey.stopping = false) : exec e s = .next (takeHold t) := by
  rw [hexec, frameBoundary_none hs, settle_ofLine hl]

theorem readingOf_clean (levels : BitVec 56) :
    readingOf levels false = .clean (readingIdentity levels) (readingCheck levels) := rfl

theorem readingOf_contestWord (w : Identity) :
    readingOf (contestWord w) false = .clean w (crc8 (identityBytes w)) := by
  rw [readingOf_clean, readingIdentity_contestWord, readingCheck_contestWord]

end Sys2Proof.Machine

namespace Sys2Proof.Proofs

open Sys2Proof Sys2Proof.Machine

/-- Settles O47: the reading is judged by the four cases of R53 to R55, and the slot is looked for in three steps. -/
theorem contestReadingsAndSlotChoice : Obligations.ContestReadingsAndSlotChoice := by
  refine ⟨fun s x r lead slots hr hx hp hround hq hstop hn => ?readings, fun s w =>
    ⟨fun i hf hi => slotChoice_holding hf hi, fun i h hf hb => slotChoice_bound h hf hb,
      fun i h h' hf hb => slotChoice_unbound h h' hf hb, fun h h' => slotChoice_none h h'⟩⟩
  case readings =>
    intro levels broken reading sp
    have hexec := exec_contestEnd_judged hr hx hp hround hq hstop lead slots
    have hclean : broken = false →
        exec (.contestEnd lead slots) s = .next (settle (frameBoundary (judgeReading r (readingOf levels false) sp))) := by
      intro hb
      have hb' : (s.contestHit lead slots || x.contestBroken) = false := hb
      rw [hexec, hb', if_neg Bool.false_ne_true]
      rfl
    refine ⟨fun hb => ?broken, fun hb hne hbad => ?invalid, fun w i hb hw hl hi => ?seat, fun w hb hw hl hi => ?full⟩
    case broken =>
      have hb' : (s.contestHit lead slots || x.contestBroken) = true := hb
      have hsurvey : (raiseForFrame .badCheck x.frame sp).survey = s.survey := raise_survey ..
      rw [hb', if_pos rfl, readingOf, if_pos rfl, judgeReading_broken] at hexec
      exact next_judged (u := s.nodesContend levels) hexec (raise_line ..) ((congrArg (·.stopping) hsurvey).trans hstop)
    case invalid =>
      have hjudged := hclean hb
      rw [readingOf_clean, judgeReading_invalid (fun ⟨h1, h2⟩ => hne (reading_eq_zero h1 h2)) hbad] at hjudged
      exact (next_judged (u := s.nodesContend levels) hjudged rfl hstop).trans (congrArg _ (takeHold_kept hn _ rfl))
    case seat =>
      have hjudged := hclean hb
      rw [hl, readingOf_contestWord, judgeReading_winner hw, takeWinner_chosen (s := sp) hi] at hjudged
      exact (next_judged (u := s.nodesContend levels) hjudged rfl hstop).trans (congrArg _ (takeHold_kept hn _ rfl))
    case full =>
      have hjudged := hclean hb
      rw [hl, readingOf_contestWord, judgeReading_winner hw, takeWinner_full (s := sp) hi] at hjudged
      exact next_judged (u := s.nodesContend levels) hjudged (raise_line ..) (by rw [raise_survey]; exact hstop)

end Sys2Proof.Proofs
end
section
/-! PROOFS. The seat phase of a survey round. -/

namespace Sys2Proof.Machine

variable {s : State} {x : Transaction} {i : Slot} {r : Round}

/-! ## The survey's next frame (R48, R56, R59) -/

theorem spaceDone_survey (hu : x.user = .survey) (s : State) :
    spaceDone x s = surveySpaceDone (s.nodesLeave.setTxn none) := by simp only [spaceDone, hu]

theorem surveySpaceDone_open (hround : s.survey.round = some r) (hc : r.closing = none) : surveySpaceDone s = s := by
  simp only [surveySpaceDone, hround, hc]

theorem surveySpaceDone_closing {e : RoundEnd} (hround : s.survey.round = some r) (hc : r.closing = some e) :
    surveySpaceDone s = endRound e s := by simp only [surveySpaceDone, hround, hc]

/-- With nothing owed, nothing in flight and the reply to SURVEY sent, the line is the survey's. -/
theorem service_survey (ha : s.lineAllows = true) (hl : s.line.state = .survey) (ho : s.line.owed = [])
    (hf : s.pool.inFlight = none) (hr : s.surveyReplyOwed = false) : service s = beginSurveyFrame s := by
  simp [service, ha, ho, beginWork, hl, hf, beginSurveyWork_sent hr]

section
variable (hround : s.survey.round = some r)

include hround

theorem beginSurveyFrame_seat (hp : r.phase = .seat) (hi : r.chosen = some i) :
    beginSurveyFrame s = beginAttempt .seat r i s := by simp only [beginSurveyFrame, hround, hp, hi]

theorem beginSurveyFrame_describe (hp : r.phase = .describe) (hi : r.chosen = some i) :
    beginSurveyFrame s = beginAttempt .desc r i s := by simp only [beginSurveyFrame, hround, hp, hi]

theorem beginSurveyFrame_clear (hp : r.phase = .clear) (hi : r.chosen = some i) :
    beginSurveyFrame s = beginFrame (addressed .unseat i) .survey s := by simp only [beginSurveyFrame, hround, hp, hi]

theorem beginSurveyFrame_skip (hp : r.phase = .skip) : beginSurveyFrame s = beginSkip s := by
  simp only [beginSurveyFrame, hround, hp]

/-- The end of a survey frame's SPACE with its round undecided. -/
theorem exec_spaceEnd_survey (hr : s.start.phase = .running) (hx : s.line.txn = some x) (hp : x.phase = .space)
    (hu : x.user = .survey) (hl : s.line.state = .survey) (hc : r.closing = none) (hn : s.noHoldAsked)
    (hw : s.wireHeld = false) (ho : s.line.owed = []) (hf : s.pool.inFlight = none) (ha : s.surveyReplyOwed = false) :
    exec .spaceEnd s = .next (beginSurveyFrame (s.nodesLeave.setTxn none)) := by
  rw [exec_spaceEnd_space hr hx hp, spaceDone_survey hu,
    surveySpaceDone_open (s := s.nodesLeave.setTxn none) hround hc, settle_service (s := s.nodesLeave.setTxn none) hn,
    service_survey (s := s.nodesLeave.setTxn none) (lineAllows_free hw) hl ho hf ha]

end

/-! ## The seating claim (R58) -/

/-- A survey that goes on has no stop to remember. -/
theorem survey_going {u : SurveyUnit} (h : u.stopping = false) (record : SurveyRecord) (round : Option Round)
    (failures : Nat) : { u with record, round, failures } = SurveyUnit.mk record round failures false := by
  rw [← h]

/-- The state in which a seated node waits to be described. -/
def State.seated (s : State) (r : Round) (record : SurveyRecord) (prior : Option EntryState) : State :=
  s.setSurvey { record, round := some { r with phase := .describe, attempts := 0, prior }, failures := 0, stopping := false }

section
variable {w : Identity} (hs : s.survey.stopping = false)

include hs

theorem seatClaim_free (he : (s.entry i).state = .free) : seatClaim r i w s =
    (seatNew i w s).seated r { s.survey.record with newSeated := s.survey.record.newSeated + 1 } none := by
  rw [seatClaim, if_pos he, survey_going hs]
  rfl

/-- R7, R58: the entry of a node that was seated before is joined again. -/
theorem seatClaim_node (he : (s.entry i).state ≠ .free) : seatClaim r i w s =
    (let joined :=
      (rejoin i s).seated r { s.survey.record with rejoined := s.survey.record.rejoined + 1 } (some (s.entry i).state)
    if (s.entry i).state = .lost then joined
    else raise .identityRepeat (slotByte i) (entryStateCode (s.entry i).state) joined) := by
  rw [seatClaim, if_neg he, survey_going hs]
  rfl

end

/-! ## The judgement of an attempt (R56) -/

/-- An answer that was received is good or broken. -/
theorem judgeAnswer_ne_silent (c : LineCommand) (n : Option Nat) (chars : List Byte) : judgeAnswer c n chars ≠ .silent := by
  unfold judgeAnswer
  split
  · split
    · exact fun h => by cases h
    · exact fun h => by cases h
  · exact fun h => by cases h

theorem seatGood_good {w : Identity} {check status : Byte} {data : List Byte} (hr : r.reading = some (.clean w check)) :
    seatGood r (.good status data) = (decide (status = 0x00) && decide (data = [check])) := by simp only [seatGood, hr]

theorem seatGood_silent (r : Round) : seatGood r .silent = false := rfl

theorem takeSeatOutcome_good {w : Identity} {check : Byte} (hi : r.chosen = some i)
    (hr : r.reading = some (.clean w check)) : takeSeatOutcome r (.good 0x00 [check]) s = seatClaim r i w s := by
  have hgood : seatGood r (.good 0x00 [check]) = true := by simp [seatGood_good hr]
  simp only [takeSeatOutcome, hgood, if_true, hi, hr]

end Sys2Proof.Machine

namespace Sys2Proof.Proofs

open Sys2Proof Sys2Proof.Machine

/-- Settles O48: the outcome of a frame of the survey goes to its round, which is judged by its phase. -/
theorem seatAttemptsAreJudged : Obligations.SeatAttemptsAreJudged := by
  refine ⟨?begins, ?answers, ?windows, ?clears, ?overruns⟩
  case begins =>
    intro s x i r hr hx hp hu hl hround hi hc hn hw ho hf ha free
    have hend := exec_spaceEnd_survey hround hr hx hp hu hl hc hn hw ho hf ha
    refine ⟨fun hq => ?_, fun hq => ?_⟩
    · rw [hend, beginSurveyFrame_seat (s := free) hround hq hi]
      rfl
    · rw [hend, beginSurveyFrame_clear (s := free) hround hq hi]
      rfl
  case answers =>
    intro s x i r w check chars ⟨hr, hx, hp, ha⟩ hu ht hround hq hi hread hstop hn sp joined judged
    have hgood : ∀ st data, judged = .good st data →
        exec (.answerReceived chars) s = .next (takeHold (takeSeatOutcome r (.good st data) sp)) := by
      intro st data hj
      rw [exec_answerReceived_good hr hx hp ha (by rw [expectedLength_target ht]; exact hj),
        frameBoundary_spaced_leave hstop, deliver_survey ha hu ht,
        takeSurveyOutcome_seat (s := spaced x s.nodesLeave) hround hq]
      rfl
    have hclaim : judged = .good 0x00 [check] →
        exec (.answerReceived chars) s = .next (takeHold (seatClaim r i w sp)) := fun hj => by
      rw [hgood _ _ hj, takeSeatOutcome_good hi hread]
    refine ⟨fun hj => ⟨fun he => ?new, fun he => ?lost, fun e he hne hne' => ?node⟩, fun hj hb => ?bad, fun hb => ?broken⟩
    case new =>
      rw [hclaim hj, seatClaim_free (s := sp) hstop he]
      exact congrArg _ (takeHold_kept hn _ rfl)
    case lost =>
      rw [hclaim hj, seatClaim_node (s := sp) hstop (fun h => by rw [show (s.entry i).state = .free from h] at he; cases he),
        show (sp.entry i).state = .lost from he]
      exact congrArg _ (takeHold_kept hn _ rfl)
    case node =>
      subst he
      rw [hclaim hj, seatClaim_node (s := sp) hstop hne]
      exact congrArg (fun t => Host.Outcome.next (takeHold t)) (if_neg hne')
    case bad =>
      cases ho : judged with
      | good st data =>
        have hbad : seatGood r (.good st data) = false := by
          rw [seatGood_good hread]
          refine Bool.eq_false_iff.2 fun h => hj ?_
          simp only [Bool.and_eq_true, decide_eq_true_eq] at h
          rw [ho, h.1, h.2]
        rw [hgood _ _ ho, takeSeatOutcome_bad hbad]
        exact congrArg _ (takeHold_kept hn _ (by split <;> rfl))
      | silent => exact absurd ho (judgeAnswer_ne_silent _ _ _)
      | broken => exact absurd ho hb
    case broken =>
      rw [exec_answerReceived_broken hr hx hp ha (by rw [expectedLength_target ht]; exact hb),
        frameBoundary_spaced_leave hstop, raiseForFrame_target _ ht, deliver_survey ha hu ht,
        takeSurveyOutcome_seat (q := r) (by rw [raise_survey]; exact hround) hq, takeSeatOutcome_bad (seatGood_broken r)]
      rfl
  case windows =>
    intro s x i r ⟨hr, hx, hp, ha⟩ hu ht hround hstop hn sp
    have hend : exec .answerWindowExpiry s = .next (takeHold (takeSurveyOutcome .silent sp)) := by
      rw [exec_answerWindowExpiry hr hx hp, deliver_survey ha hu ht]
      rfl
    refine ⟨fun hq => ?_, fun hq => ?_⟩
    · rw [hend, takeSurveyOutcome_seat (s := sp) hround hq, takeSeatOutcome_bad (seatGood_silent r)]
      exact congrArg _ (takeHold_kept hn _ (by split <;> rfl))
    · rw [hend, takeSurveyOutcome_clear (s := sp) hround hq]
      exact congrArg _ (takeHold_kept hn _ rfl)
  case clears =>
    intro s x i r chars ⟨hr, hx, hp, ha⟩ hu ht hround hq hstop hn sp
    cases hj : judgeAnswer x.frame.command ((s.entry i).descriptor.map fun d => d.reportLength) chars with
    | good st data =>
      rw [exec_answerReceived_good hr hx hp ha (by rw [expectedLength_target ht]; exact hj),
        frameBoundary_spaced_leave hstop, deliver_survey ha hu ht,
        takeSurveyOutcome_clear (s := spaced x s.nodesLeave) hround hq, if_neg (fun h => by cases h)]
      rfl
    | silent => exact absurd hj (judgeAnswer_ne_silent _ _ _)
    | broken =>
      rw [exec_answerReceived_broken hr hx hp ha (by rw [expectedLength_target ht]; exact hj),
        frameBoundary_spaced_leave hstop, raiseForFrame_target _ ht, deliver_survey ha hu ht,
        takeSurveyOutcome_clear (q := r) (by rw [raise_survey]; exact hround) hq, if_pos rfl]
      rfl
  case overruns =>
    intro s x i r ⟨hr, hx, hp, ha⟩ hu ht hround hstop hn raised
    have hround' : raised.survey.round = some r := by rw [raise_survey]; exact hround
    have hend : exec .twentyFirstCharacter s = .next (takeHold (takeSurveyOutcome .broken raised)) := by
      rw [exec_twentyFirst hr hx hp ha, frameBoundary_spaced hstop, raiseForFrame_target _ ht, deliver_survey ha hu ht]
      rfl
    refine ⟨fun hq => ?_, fun hq => ?_⟩
    · rw [hend, takeSurveyOutcome_seat hround' hq, takeSeatOutcome_bad (seatGood_broken r)]
    · rw [hend, takeSurveyOutcome_clear hround' hq]
      rfl

end Sys2Proof.Proofs
end
section
/-! PROOFS. The describe phase of a survey round. -/

namespace Sys2Proof.Machine

variable {s : State} {x : Transaction} {i : Slot} {r : Round}

/-- R6, R11: the entry of a node that is described, field by field. -/
theorem describedEntry_undescribed {e : Entry} (h : e.state = .undescribed) (d : Descriptor) (prior : Option EntryState) :
    describedEntry d prior e =
      { e with
        descriptor := some d
        state := if prior = some .paused then .paused else .active
        gateMode := if e.gateSource = .provisional then (if d.kind = .actuator then .gated else .free) else e.gateMode
        gateSource := if e.gateSource = .provisional then .kind else e.gateSource
        gateOpen := e.gateOpen && decide (e.gateSource ≠ .provisional) } := by
  have hkind : kindGateMode d.kind = if d.kind = .actuator then .gated else .free := by cases d.kind <;> rfl
  by_cases hg : e.gateSource = .provisional
  · simp [describedEntry, h, kindDefault, hg, hkind]
  · simp [describedEntry, h, kindDefault, hg]

theorem describeFailure_of {t : State} (h : t.survey = s.survey) (r : Round) (i : Slot) : describeFailure r i t =
    (t.setSurvey
      { s.survey with
        record := { s.survey.record with undescribed := s.survey.record.undescribed + 1 }
        round := some { r with closing := some .served } }).addChange i := by rw [describeFailure, h]

theorem describeGood_accept {data : List Byte} {d : Descriptor} (h : descriptorOf data = some d) :
    describeGood (.good 0x00 data) = some d := h

theorem describeGood_refused {status : Byte} (h : status ≠ 0x00) (data : List Byte) :
    describeGood (.good status data) = none := if_neg h

/-- The attempt that is not good: the first two leave all as it was. -/
theorem takeSurveyOutcome_undescribed {t : State} {o : LineOutcome} (hround : s.survey.round = some r)
    (hq : r.phase = .describe) (hi : r.chosen = some i) (ho : describeGood o = none) (ht : t.survey = s.survey) :
    takeSurveyOutcome o t =
      if r.attempts < 3 then t
      else
        (t.setSurvey
          { s.survey with
            record := { s.survey.record with undescribed := s.survey.record.undescribed + 1 }
            round := some { r with closing := some .served } }).addChange i := by
  rw [takeSurveyOutcome_describe (by rw [ht]; exact hround) hq, takeDescribeOutcome_bad hi ho, describeFailure_of ht]

theorem takeSurveyOutcome_described {data : List Byte} {d : Descriptor} (hround : s.survey.round = some r)
    (hq : r.phase = .describe) (hi : r.chosen = some i) (hd : descriptorOf data = some d) :
    takeSurveyOutcome (.good 0x00 data) s = closeRound .served r (describeSuccess i d r.prior s) := by
  rw [takeSurveyOutcome_describe hround hq]
  simp only [takeDescribeOutcome, hi, describeGood_accept hd]

end Sys2Proof.Machine

namespace Sys2Proof.Proofs

open Sys2Proof Sys2Proof.Machine

/-- Settles O49: a good answer describes the entry; the third attempt that is not good ends the round too. -/
theorem describePhasesEnd : Obligations.DescribePhasesEnd := by
  refine ⟨?begins, ?answers, ?windows⟩
  case begins =>
    intro s x i r hr hx hp hu hl hround hi hq hc hn hw ho hf ha
    rw [exec_spaceEnd_survey hround hr hx hp hu hl hc hn hw ho hf ha,
      beginSurveyFrame_describe (s := s.nodesLeave.setTxn none) hround hq hi]
    rfl
  case answers =>
    intro s x i r chars data status d ⟨hr, hx, hp, ha⟩ hu hframe hround hq hi he hstop hn sp judged failure
    have ht : x.frame.target = some i := by rw [hframe]
    have hc : x.frame.command = .desc := by rw [hframe]
    have hjudge : judgeAnswer x.frame.command (expectedLength x s) chars = judged := by
      rw [expectedLength_target ht, hc]
    have hgood : ∀ st, judged = .good st data →
        exec (.answerReceived chars) s = .next (takeHold (takeSurveyOutcome (.good st data) sp)) := by
      intro st hj
      rw [exec_answerReceived_good hr hx hp ha (hjudge.trans hj), frameBoundary_spaced_leave hstop, deliver_survey ha hu ht]
      rfl
    refine ⟨fun hj hd => ?good, fun hj hst => ?refused, fun hj => ?broken, ?overrun⟩
    case good =>
      rw [hgood _ hj, takeSurveyOutcome_described (s := sp) hround hq hi hd, describeSuccess,
        describedEntry_undescribed (e := sp.entry i) he]
      exact congrArg _ (takeHold_kept hn _ rfl)
    case refused =>
      rw [hgood _ hj, takeSurveyOutcome_undescribed (t := sp) hround hq hi (describeGood_refused hst data) rfl]
      exact congrArg _ (takeHold_kept hn _ (by split <;> rfl))
    case broken =>
      rw [exec_answerReceived_broken hr hx hp ha (hjudge.trans hj), frameBoundary_spaced_leave hstop,
        raiseForFrame_target _ ht, hc, deliver_survey ha hu ht,
        takeSurveyOutcome_undescribed (t := raise _ _ _ (spaced x s.nodesLeave)) hround hq hi rfl (raise_survey ..)]
      rfl
    case overrun =>
      rw [exec_twentyFirst hr hx hp ha, frameBoundary_spaced hstop, raiseForFrame_target _ ht, hc, deliver_survey ha hu ht,
        takeSurveyOutcome_undescribed (t := raise _ _ _ (spaced x s)) hround hq hi rfl (raise_survey ..)]
      rfl
  case windows =>
    intro s x i r ⟨hr, hx, hp, ha⟩ hu ht hround hq hi hn sp
    rw [exec_answerWindowExpiry hr hx hp, deliver_survey ha hu ht,
      takeSurveyOutcome_undescribed (t := spaced x s) hround hq hi rfl rfl, takeHold_none (by split <;> exact hn)]
    rfl

end Sys2Proof.Proofs
end
section
/-! PROOFS. How rounds and surveys end. -/

namespace Sys2Proof.Machine

variable {s t : State} {x : Transaction} {r : Round}

/-! ## The ending of a survey (R62) -/

/-- What a survey's ending leaves behind. -/
structure SurveyEnded (result : SurveyState) (s t : State) : Prop where
  record : t.survey.record = { s.survey.record with state := result, finish := some s.now }
  round : t.survey.round = none
  stopping : t.survey.stopping = s.survey.stopping
  state : t.line.state = .running
  silence : t.line.silence = true
  txn : t.line.txn = s.line.txn
  owed : t.line.owed = (addOwed .close s).line.owed
  wireHeld : t.wireHeld = s.wireHeld
  due : ∀ i : Slot, t.isDue i = (s.isDue i || decide ((s.entry i).state = .active))
  cycle : t.sched.cycle = some { length := s.sched.period, remaining := s.sched.period }
  lateCycles : t.sched.lateCycles = s.sched.lateCycles
  link : s.link.clearMayFollow = false → t.link = { s.link with surveyDone := true }
  dir : t.dir = s.dir
  store : t.store = s.store
  pool : t.pool = s.pool
  faults : t.faults = s.faults
  start : t.start = s.start
  settings : t.settings = s.settings

theorem surveyEnded_finishSurvey (result : SurveyState) (s : State) : SurveyEnded result s (finishSurvey result s) where
  record := by simp [finishSurvey, State.setSurvey]
  round := finishSurvey_round result
  stopping := by simp [finishSurvey, State.setSurvey]
  state := by simp [finishSurvey]
  silence := by simp [finishSurvey]
  txn := finishSurvey_txn result
  owed := by simp [finishSurvey, addOwed_owed, State.setSurvey]
  wireHeld := by simp [finishSurvey, State.wireHeld, addOwed, State.setSurvey]
  due := fun i => by
    have hlatched := latchSurveyDone_isDue (s := s.setSurvey
      { s.survey with record := { s.survey.record with state := result, finish := some s.now }, round := none }) i
    have hentry := latchSurveyDone_entry (s := s.setSurvey
      { s.survey with record := { s.survey.record with state := result, finish := some s.now }, round := none }) i
    exact (isDue_cycleStart _ i).trans
      (congr (congrArg or hlatched) (congrArg (fun e : Entry => decide (e.state = .active)) hentry))
  cycle := by simp [finishSurvey, cycleStart, State.setSurvey]
  lateCycles := by simp [finishSurvey, cycleStart, State.setSurvey]
  link := fun h => by simp [finishSurvey, State.latchSurveyDone, State.setSurvey, h]
  dir := by simp [finishSurvey, State.setSurvey]
  store := by simp [finishSurvey, State.setSurvey]
  pool := by simp [finishSurvey, State.setSurvey]
  faults := by simp [finishSurvey, State.setSurvey]
  start := by simp [finishSurvey, State.setSurvey]
  settings := by simp [finishSurvey, State.setSurvey]

/-- With the line free the CLOSE that the ending owes begins at once, and nothing else changes. -/
theorem SurveyEnded.closes {result : SurveyState} (h : SurveyEnded result s t) (hn : s.noHoldAsked)
    (hx : s.line.txn = none) (hw : s.wireHeld = false) (ho : s.line.owed = []) :
    settle t = beginOwed { command := .close, framesBegun := 0 } [] t := by
  have hallows : t.lineAllows = true := by
    rw [State.lineAllows, h.txn, hx, h.wireHeld, hw]
    rfl
  rw [settle_service ((congrArg (·.holdAsked) h.faults).trans hn), service_owed hallows]
  rw [h.owed, addOwed_owed, ho]
  rfl

/-! ## The ending of a round (R60, R61) -/

/-- What a round's ending counts as failed. -/
def failedNumber (c : Option RoundEnd) : Nat := if c = some .failed then 1 else 0

/-- The survey with a round's ending counted. -/
def countedEnd (c : Option RoundEnd) (s : State) : State :=
  s.setSurvey
    { record := { s.survey.record with failedRounds := s.survey.record.failedRounds + failedNumber c }
      round := none
      failures := s.survey.failures + failedNumber c
      stopping := false }

theorem endRound_eq (hs : s.survey.stopping = false) (e : RoundEnd) : endRound e s =
    if 3 ≤ s.survey.failures + failedNumber (some e) then finishSurvey .failed (countedEnd (some e) s)
    else if 64 ≤ s.survey.record.roundsRun then finishSurvey .limit (countedEnd (some e) s)
    else countedEnd (some e) s := by
  rw [endRound, survey_going hs]
  cases e <;> rfl

section
variable {e : RoundEnd} (hs : s.survey.stopping = false)

include hs

theorem endRound_failed (h : s.survey.failures + failedNumber (some e) = 3) :
    endRound e s = finishSurvey .failed (countedEnd (some e) s) := by rw [endRound_eq hs, if_pos (Nat.le_of_eq h.symm)]

theorem endRound_limit (h : s.survey.failures + failedNumber (some e) < 3) (h' : s.survey.record.roundsRun = 64) :
    endRound e s = finishSurvey .limit (countedEnd (some e) s) := by
  rw [endRound_eq hs, if_neg (Nat.not_le.2 h), if_pos (Nat.le_of_eq h'.symm)]

theorem endRound_next (h : s.survey.failures + failedNumber (some e) < 3) (h' : s.survey.record.roundsRun < 64) :
    endRound e s = countedEnd (some e) s := by
  rw [endRound_eq hs, if_neg (Nat.not_le.2 h), if_neg (Nat.not_le.2 h')]

end

end Sys2Proof.Machine

namespace Sys2Proof.Proofs

open Sys2Proof Sys2Proof.Machine

/-- Settles O50: a decided round is counted as its last SPACE ends; what then follows is a CALL or the survey's end. -/
theorem roundsAndSurveysEnd : Obligations.RoundsAndSurveysEnd := by
  refine ⟨?collision, ?spaces, ?empty⟩
  case collision =>
    intro s x r hr hx hp hu hframe hround hq hstop hn
    have ht : x.frame.target = none := by rw [hframe]
    have hc : x.frame.command = .call := by rw [hframe]
    rw [exec_collision_survey hr hx hp ht hu, frameBoundary_spaced hstop, raiseForFrame, frameAddress_broadcast ht, hc,
      takeBroadcastOutcome_call (r := r) (by rw [raise_survey]; exact hround) hq]
    rfl
  case spaces =>
    intro s x r hr hx hp hu hl hround hstop hn hw ho hf free failed ended
    have hallows : free.lineAllows = true := lineAllows_free hw
    have hclosing : ∀ e, r.closing = some e → exec .spaceEnd s = .next (settle (endRound e free)) := fun e he => by
      rw [exec_spaceEnd_space hr hx hp, spaceDone_survey hu, surveySpaceDone_closing (s := free) hround he]
    have hfinish : ∀ (e : RoundEnd) (result : SurveyState), r.closing = some e →
        endRound e free = finishSurvey result (countedEnd (some e) free) → ∃ t, exec .spaceEnd s = .next t ∧ ended result t := by
      intro e result he hend
      have h := surveyEnded_finishSurvey result (countedEnd (some e) free)
      refine ⟨_, hclosing e he, ?_⟩
      rw [hend, h.closes hn rfl hw ho]
      refine ⟨h.record.trans ?_, h.round, h.state, h.silence, rfl, h.due, h.cycle, h.lateCycles, h.link, h.dir, h.store,
        h.pool, h.faults, h.start, h.settings⟩
      rw [← he]
      rfl
    refine ⟨fun hq hc ha => ?skip, fun hc hlt hrun ha => ?next, fun hc h3 => ?failed, fun hc hlt h64 => ?limit⟩
    case skip =>
      rw [exec_spaceEnd_survey hround hr hx hp hu hl hc hn hw ho hf ha, beginSurveyFrame_skip (s := free) hround hq]
      rfl
    case next =>
      obtain ⟨e, he⟩ := Option.isSome_iff_exists.1 hc
      have hlt' : free.survey.failures + failedNumber (some e) < 3 := he ▸ hlt
      rw [hclosing e he, endRound_next (s := free) hstop hlt' hrun, settle_service (s := countedEnd (some e) free) hn,
        service_beginRound (s := countedEnd (some e) free) hallows hl ho hf ha rfl, ← he]
      rfl
    case failed =>
      obtain ⟨e, he⟩ := Option.isSome_iff_exists.1 hc
      exact hfinish e .failed he (endRound_failed (s := free) hstop (he ▸ h3))
    case limit =>
      obtain ⟨e, he⟩ := Option.isSome_iff_exists.1 hc
      exact hfinish e .limit he (endRound_limit (s := free) hstop (he ▸ hlt) h64)
  case empty =>
    intro s x r lead slots hr hx hp hb hround hq hstop hn hhit hzero
    have h := surveyEnded_finishSurvey .complete (spaced x (s.nodesContend (s.contestReading slots)))
    have hexec := exec_contestEnd_judged hr hx hp hround hq hstop lead slots
    rw [hhit, hb, Bool.or_false, if_neg Bool.false_ne_true, hzero, show readingOf 0 false = .clean 0 0 from rfl,
      judgeReading_empty, ← hzero, frameBoundary_none (h.stopping.trans hstop), settle_onLine (by rw [h.txn]; rfl),
      takeHold_kept hn _ h.faults] at hexec
    refine ⟨_, hexec, h.record, h.round, h.state, h.silence, ?_, h.txn, h.due, h.cycle, h.lateCycles, h.link, h.dir,
      h.store, h.pool, h.faults, h.start, h.settings⟩
    rw [h.owed, addOwed_getLast]

end Sys2Proof.Proofs
end
section
/-! PROOFS. What a conforming node does. -/

namespace Sys2Proof.Machine

variable {s : State} {n : Node} {f : LineFrame} {i : Slot}

/-! ## Hearing a frame (R38, R40) -/

theorem heldSlot_eq_some {st : NodeState} : heldSlot st = some i ↔ st = .seated i ∨ st = .halted i := by
  cases st <;> simp [heldSlot]

theorem departed_staying (h : n.leaving = false) : departed n = n := by simp [departed, h]

theorem hearFrame_obeys (h : n.leaving = false) (ht : f.target = some i) (hs : heldSlot n.state = some i) :
    hearFrame f n = obey f n := by simp [hearFrame, departed_staying h, ht, hs]

theorem hearFrame_follows (h : n.leaving = false) (ht : f.target = none ∨ f.target ≠ heldSlot n.state) :
    hearFrame f n = follow f n := by
  have hother : ¬ (f.target.isSome = true ∧ f.target = heldSlot n.state) := by
    rintro ⟨hsome, heq⟩
    exact ht.elim (fun hn => by simp [hn] at hsome) fun hne => hne heq
  rw [hearFrame, departed_staying h, if_neg hother]

theorem hearFrame_broadcast_state (h : n.leaving = false) (c : LineCommand) :
    (hearFrame { command := c, target := none, data := [] } n).state =
      stateAfterFrame { command := c, target := none, data := [] } n.state := by
  rw [hearFrame_follows h (.inl rfl)]
  rfl

/-- A node that holds the slot of a SEAT stays as it is, as the table says too. -/
theorem hearFrame_seat_state (h : n.leaving = false) (j : Slot) :
    (hearFrame { command := .seat, target := some j, data := [] } n).state =
      stateAfterFrame { command := .seat, target := some j, data := [] } n.state := by
  by_cases hs : heldSlot n.state = some j
  · rw [hearFrame_obeys h rfl hs]
    rcases heldSlot_eq_some.1 hs with hn | hn
    · simp [obey, stateAfterFrame, hn]
    · simp [obey, stateAfterFrame, hn]
  · rw [hearFrame_follows h (.inr (Ne.symm hs))]
    rfl

theorem missFrame_state (f : LineFrame) (n : Node) : (missFrame f n).state = n.state := by
  unfold missFrame
  split <;> rfl

/-! ## Obeying a command (R40, R81, R139) -/

theorem writeItem_held (f : LineFrame) (n : Node) : (writeItem f n).held = n.held := by
  unfold writeItem
  split
  · split <;> rfl
  · rfl

theorem writeItem_leaving (f : LineFrame) (n : Node) : (writeItem f n).leaving = n.leaving := by
  unfold writeItem
  split
  · split <;> rfl
  · rfl

theorem writeItem_dropped (f : LineFrame) (n : Node) : (writeItem f n).dropped = n.dropped := by
  unfold writeItem
  split
  · split <;> rfl
  · rfl

theorem acknowledge_leaving (f : LineFrame) (n : Node) : (acknowledge f n).leaving = n.leaving := by
  unfold acknowledge
  split
  · split <;> rfl
  · rfl

theorem acknowledge_dropped (f : LineFrame) (n : Node) : (acknowledge f n).dropped = n.dropped := by
  unfold acknowledge
  split
  · split <;> rfl
  · rfl

theorem obey_held (h : f.command ≠ .poll) : (obey f n).held = n.held := by
  unfold obey
  split
  · exact absurd ‹_› h
  · exact writeItem_held f n
  all_goals rfl

theorem obey_leaving (h : f.command ≠ .unseat) : (obey f n).leaving = n.leaving := by
  unfold obey
  split
  · exact acknowledge_leaving f n
  · exact writeItem_leaving f n
  · rfl
  · exact absurd ‹_› h
  · rfl

theorem obey_dropped (h : f.command ≠ .desc) : (obey f n).dropped = n.dropped := by
  unfold obey
  split
  · exact acknowledge_dropped f n
  · exact writeItem_dropped f n
  · exact absurd ‹_› h
  all_goals rfl

theorem obey_poll (h : f.command = .poll) : obey f n = acknowledge f n := by simp only [obey, h]

theorem obey_put (h : f.command = .put) : obey f n = writeItem f n := by simp only [obey, h]

theorem obey_unseat (h : f.command = .unseat) : obey f n = { n with leaving := true } := by simp only [obey, h]

/-- R81: only a POLL to the slot that the node holds releases a report. -/
theorem hearFrame_held (hl : n.leaving = false) (h : f.command ≠ .poll ∨ f.target ≠ heldSlot n.state) :
    (hearFrame f n).held = n.held := by
  by_cases hother : f.target = none ∨ f.target ≠ heldSlot n.state
  · rw [hearFrame_follows hl hother]
    rfl
  · obtain ⟨hsome, heq⟩ := not_or.1 hother
    obtain ⟨i, hi⟩ := Option.ne_none_iff_exists'.1 hsome
    rw [hearFrame_obeys hl hi ((Classical.not_not.1 heq).symm.trans hi), obey_held (h.resolve_right (fun hne => heq hne))]

theorem hearFrame_dropped (hl : n.leaving = false) (hd : n.dropped = true) (h : (hearFrame f n).dropped = false) :
    f.command = .desc ∧ f.target.isSome = true ∧ f.target = heldSlot n.state := by
  by_cases hother : f.target = none ∨ f.target ≠ heldSlot n.state
  · rw [hearFrame_follows hl hother] at h
    exact absurd (hd.symm.trans h) Bool.noConfusion
  · obtain ⟨hsome, heq⟩ := not_or.1 hother
    obtain ⟨i, hi⟩ := Option.ne_none_iff_exists'.1 hsome
    refine ⟨Decidable.byContradiction fun hc => ?_, by rw [hi]; rfl, Classical.not_not.1 heq⟩
    rw [hearFrame_obeys hl hi ((Classical.not_not.1 heq).symm.trans hi), obey_dropped hc, hd] at h
    exact Bool.noConfusion h

theorem acknowledge_none (h : n.held = []) : (acknowledge f n).held = [] := by
  unfold acknowledge
  split
  · rename_i hheld
    rw [h] at hheld
    cases hheld
  · exact h

theorem acknowledge_taken {r : NodeReport} {later : List NodeReport} (h : n.held = r :: later)
    (hf : f.data = [0x01, r.sequence]) : (acknowledge f n).held = later := by simp [acknowledge, h, hf]

theorem acknowledge_other {r : NodeReport} {later : List NodeReport} {present q : Byte} (h : n.held = r :: later)
    (hf : f.data = [present, q]) (hne : present ≠ 0x01 ∨ q ≠ r.sequence) : (acknowledge f n).held = r :: later := by
  have hno : ¬ (present = 0x01 ∧ q = r.sequence) := fun ⟨h1, h2⟩ => hne.elim (· h1) (· h2)
  simp only [acknowledge, h, hf, if_neg hno]

/-! ## Items (R29, R40) -/

theorem putStatus_absent {number : Byte} (h : itemOf number n = none) (values : List Byte) :
    putStatus number values n = 0x81 := by simp only [putStatus, h]

theorem putStatus_readOnly {number : Byte} {m : NodeItem} (h : itemOf number n = some m) (hw : m.writable = false)
    (values : List Byte) : putStatus number values n = 0x82 := by simp [putStatus, h, hw]

theorem putStatus_writable {number : Byte} {m : NodeItem} (h : itemOf number n = some m) (hw : m.writable = true)
    (values : List Byte) :
    putStatus number values n = if Config.nodeAllowsValue n.number number values then 0x00 else 0x83 := by
  simp [putStatus, h, hw]

theorem itemOf_of_accepted {number : Byte} {values : List Byte} (h : putStatus number values n = 0x00) :
    ∃ m, itemOf number n = some m := by
  cases hm : itemOf number n with
  | some m => exact ⟨m, rfl⟩
  | none =>
    rw [putStatus_absent hm] at h
    exact absurd h (by decide)

/-- What a PUT writes to the items of a node. -/
def putItem (number : Byte) (values : List Byte) (m : NodeItem) : NodeItem :=
  if m.number = number then { m with value := values } else m

theorem putItem_number (number : Byte) (values : List Byte) (m : NodeItem) : (putItem number values m).number = m.number := by
  unfold putItem
  split <;> rfl

theorem find_putItem {number : Byte} {items : List NodeItem} {m : NodeItem}
    (h : items.find? (fun m => m.number == number) = some m) (values : List Byte) :
    (items.map (putItem number values)).find? (fun m => m.number == number) = some { m with value := values } := by
  have hnumber : m.number = number := by simpa using List.find?_some h
  have hsame : (fun m : NodeItem => m.number == number) ∘ putItem number values = fun m => m.number == number :=
    funext fun m => by simp only [Function.comp_apply, putItem_number]
  rw [List.find?_map, hsame, h, Option.map_some, putItem, if_pos hnumber]

section
variable {number : Byte} {values : List Byte} (hs : n.state = .seated i) (hd : f.data = number :: values)

include hs hd

theorem writeItem_accepted (h : putStatus number values n = 0x00) :
    (writeItem f n).items = n.items.map (putItem number values) := by
  simp only [writeItem, hs, hd, if_pos h]
  rfl

theorem writeItem_refused (h : putStatus number values n ≠ 0x00) : writeItem f n = n := by
  simp only [writeItem, hs, hd, if_neg h]

end

theorem writeItem_halted (hs : n.state = .halted i) : writeItem f n = n := by simp only [writeItem, hs]

/-! ## Answers (R40, R81) -/

section
variable (ht : f.target = some i) (hs : heldSlot n.state = some i)

include ht hs

theorem conformingAnswer_desc (hc : f.command = .desc) : conformingAnswer f n = some (framedAnswer 0x00 n.descriptor) := by
  simp [conformingAnswer, ht, hs, hc]

theorem conformingAnswer_unseat (hc : f.command = .unseat) : conformingAnswer f n = some (framedAnswer 0x00 []) := by
  simp [conformingAnswer, ht, hs, hc]

theorem conformingAnswer_report {r : NodeReport} {later : List NodeReport} (hc : f.command = .poll)
    (h : (acknowledge f n).held = r :: later) : conformingAnswer f n =
      some (framedAnswer ((if n.alarm then 0x02 else 0x00) ||| 0x01) (r.sequence :: r.payload)) := by
  simp [conformingAnswer, ht, hs, hc, h]

theorem conformingAnswer_noReport (hc : f.command = .poll) (h : (acknowledge f n).held = []) :
    conformingAnswer f n = some (framedAnswer (if n.alarm then 0x02 else 0x00) [n.lastMade]) := by
  simp [conformingAnswer, ht, hs, hc, h]

theorem conformingAnswer_get {number : Byte} {m : NodeItem} (hc : f.command = .get) (hd : f.data = [number])
    (h : itemOf number n = some m) : conformingAnswer f n = some (framedAnswer 0x00 m.value) := by
  simp [conformingAnswer, ht, hs, hc, hd, h]

theorem conformingAnswer_get_absent {number : Byte} (hc : f.command = .get) (hd : f.data = [number])
    (h : itemOf number n = none) : conformingAnswer f n = some (framedAnswer 0x81 []) := by
  simp [conformingAnswer, ht, hs, hc, hd, h]

theorem conformingAnswer_echo {p : Pattern} (hc : f.command = .echo) (hd : f.data = [patternCode p]) :
    conformingAnswer f n = some (framedAnswer 0x00 (List.replicate 4 (patternByte p))) := by
  have hp : patternOf (patternCode p) = some p := by cases p <;> rfl
  simp [conformingAnswer, ht, hs, hc, hd, hp]

end

theorem conformingAnswer_put_halted (ht : f.target = some i) (hs : n.state = .halted i) (hc : f.command = .put) :
    conformingAnswer f n = some (framedAnswer 0x84 []) := by
  simp [conformingAnswer, ht, hs, hc, heldSlot]

theorem conformingAnswer_put_seated {number : Byte} {values : List Byte} (ht : f.target = some i)
    (hs : n.state = .seated i) (hc : f.command = .put) (hd : f.data = number :: values) :
    conformingAnswer f n = some (framedAnswer (putStatus number values n) []) := by
  simp [conformingAnswer, ht, hs, hc, hd, heldSlot]

/-- A node stays silent on what is not addressed to it. -/
theorem conformingAnswer_other (hs : heldSlot n.state ≠ f.target) (hc : f.command ≠ .seat) : conformingAnswer f n = none := by
  have hno : ¬ (f.target.isSome = true ∧ f.target = heldSlot n.state) := fun h => hs h.2.symm
  rw [conformingAnswer, if_neg hno]
  split
  · exact absurd ‹_› hc
  · rfl

theorem conformingAnswer_seat (ht : f.target = some i) (hc : f.command = .seat) : conformingAnswer f n =
    if n.state = .contending ∨ n.state = .seated i then some (framedAnswer 0x00 [crc8 (identityBytes n.identity)])
    else none := by
  cases hs : n.state with
  | seated j => by_cases hj : j = i <;> simp [conformingAnswer, ht, hc, hs, heldSlot, hj, eq_comm]
  | halted j => by_cases hj : j = i <;> simp [conformingAnswer, ht, hc, hs, heldSlot, hj, eq_comm]
  | _ => simp [conformingAnswer, ht, hc, hs, heldSlot]

/-! ## The contest (R42) -/

/-- A bit of the first word is missing where the second has one. -/
theorem not_and_ne_zero_iff (a b : BitVec 56) :
    ~~~a &&& b ≠ 0 ↔ ∃ k, k < 56 ∧ a.getLsbD k = false ∧ b.getLsbD k = true := by
  constructor
  · intro hne
    refine Classical.byContradiction fun hall => ?_
    refine hne (BitVec.eq_of_getLsbD_eq fun k hk => ?_)
    simp only [not_exists, not_and, Bool.not_eq_true] at hall
    cases ha : a.getLsbD k
    · simp [hall k hk ha]
    · simp [ha]
  · rintro ⟨k, hk, ha, hb⟩ hzero
    have hbit := congrArg (·.getLsbD k) hzero
    simp only [BitVec.getLsbD_and, BitVec.getLsbD_not, ha, hb, hk] at hbit
    exact absurd (hbit.trans BitVec.getLsbD_zero) (by decide)

theorem contending_of_contends (h : contends n = true) : n.state = .contending := by
  simp only [contends, Bool.and_eq_true, decide_eq_true_eq] at h
  exact h.2

theorem contestNode_withdraws (levels : BitVec 56) (h : contends n = true)
    (hbit : ∃ k, k < 56 ∧ (contestWord n.identity).getLsbD k = false ∧ levels.getLsbD k = true) :
    (contestNode levels n).state = .withdrawn := by
  rw [contestNode, if_pos ⟨h, (not_and_ne_zero_iff _ _).2 hbit⟩]

theorem contestNode_stays (levels : BitVec 56)
    (h : ¬ (contends n = true ∧ ∃ k, k < 56 ∧ (contestWord n.identity).getLsbD k = false ∧ levels.getLsbD k = true)) :
    (contestNode levels n).state = n.state := by
  rw [contestNode, if_neg fun hall => h ⟨hall.1, (not_and_ne_zero_iff _ _).1 hall.2⟩]

/-! ## Restart (R81) -/

theorem numberReports_payload (first : Byte) (payloads : List (List Byte)) :
    (numberReports first payloads).map (fun r => r.payload) = payloads := by
  induction payloads generalizing first with
  | nil => rfl
  | cons payload rest ih => rw [numberReports, List.map_cons, ih]

theorem numberReports_sequence (first : Byte) (payloads : List (List Byte)) {k : Nat} (hk : k < payloads.length) :
    ((numberReports first payloads).map fun r => r.sequence)[k]? = some (first + BitVec.ofNat 8 k) := by
  induction payloads generalizing first k with
  | nil => exact absurd hk (Nat.not_lt_zero k)
  | cons payload rest ih =>
    cases k with
    | zero => simp [numberReports]
    | succ m =>
      rw [numberReports, List.map_cons, List.getElem?_cons_succ, ih _ (Nat.lt_of_succ_lt_succ hk), BitVec.ofNat_add,
        BitVec.add_assoc, BitVec.add_comm 1]
      rfl

/-- The report that was made last carries the last number. -/
theorem numberReports_last {first : Byte} {payloads : List (List Byte)} {r : NodeReport}
    (h : (numberReports first payloads).getLast? = some r) : lastNumber first payloads = r.sequence := by
  have hlength : ((numberReports first payloads).map fun r => r.sequence).length = payloads.length := by
    rw [List.length_map, ← List.length_map (fun r : NodeReport => r.payload), numberReports_payload]
  have hlast : ((numberReports first payloads).map fun r => r.sequence).getLast? = some r.sequence := by
    rw [List.getLast?_map, h]
    rfl
  rw [List.getLast?_eq_getElem?, hlength] at hlast
  cases payloads with
  | nil => cases h
  | cons payload rest =>
    rw [numberReports_sequence _ _ (by simp)] at hlast
    rw [lastNumber, ← Option.some.inj hlast, List.length_cons, Nat.add_sub_cancel, BitVec.ofNat_add]
    bv_omega

end Sys2Proof.Machine

namespace Sys2Proof.Proofs

open Sys2Proof Sys2Proof.Machine

/-- Settles O51: a node obeys what is addressed to the slot it holds, and follows every other frame. -/
theorem nodesFollowTheProtocol : Obligations.NodesFollowTheProtocol := by
  refine ⟨fun n i f hl => ?hears, fun n number values => ⟨fun h => putStatus_absent h values,
    fun m h hw => putStatus_readOnly h hw values, fun m h hw => putStatus_writable h hw values⟩,
    fun n levels => ⟨fun h => ?contest, fun h => contestNode_stays levels fun hall => by simp [h] at hall⟩,
    fun s node => ⟨rfl, fun identity descriptor first payloads condition => ?restart⟩, fun n => ⟨?safe, fun hl hd f h =>
      hearFrame_dropped hl hd h⟩⟩
  case hears =>
    intro hears seated
    have hhears : ∀ c, hears c = stateAfterFrame { command := c, target := none, data := [] } n.state :=
      hearFrame_broadcast_state hl
    have hseated : ∀ j, seated j = stateAfterFrame { command := .seat, target := some j, data := [] } n.state :=
      hearFrame_seat_state hl
    refine ⟨fun h => ?_, fun h => ?_, fun h => ?_, fun h => ?_, fun j h => ?_, fun j h => ?_, missFrame_state f n,
      hearFrame_held hl, fun ht hn => ?obeys, fun ht h h' hc => ?silent, fun ht hc => conformingAnswer_seat ht hc⟩
    case obeys =>
      have hs : heldSlot n.state = some i := heldSlot_eq_some.2 hn
      rw [hearFrame_obeys hl ht hs]
      refine ⟨fun hc => ?unseat, fun hc => departed_staying ((obey_leaving hc).trans hl), conformingAnswer_desc ht hs,
        conformingAnswer_unseat ht hs, fun hc hh => ⟨?halted, conformingAnswer_put_halted ht hh hc⟩,
        fun number values hc hst hd => ⟨conformingAnswer_put_seated ht hst hc hd, fun hok => ?written, fun hno => ?refused⟩,
        fun number m hc hd hm => conformingAnswer_get ht hs hc hd hm,
        fun number hc hd hm => conformingAnswer_get_absent ht hs hc hd hm, fun hc => ?poll,
        fun p hc hd => conformingAnswer_echo ht hs hc hd⟩
      case unseat =>
        rw [obey_unseat hc]
        exact ⟨rfl, rfl⟩
      case halted => rw [obey_put hc, writeItem_halted hh]
      case written =>
        obtain ⟨m, hm⟩ := itemOf_of_accepted hok
        rw [obey_put hc, itemOf, writeItem_accepted hst hd hok, find_putItem hm]
        rfl
      case refused => rw [obey_put hc, writeItem_refused hst hd hno]
      case poll =>
        rw [obey_poll hc]
        exact ⟨acknowledge_none, fun r later h => ⟨acknowledge_taken h, fun present q hd => acknowledge_other h hd⟩,
          fun r later h => conformingAnswer_report ht hs hc h, fun h => conformingAnswer_noReport ht hs hc h⟩
    case silent =>
      refine conformingAnswer_other (fun hs => ?_) hc
      exact (heldSlot_eq_some.1 (hs.trans ht)).elim h h'
    all_goals
      simp only [hhears, hseated, h]
      exact ⟨rfl, rfl, rfl, rfl, rfl, rfl, rfl, rfl⟩
  case contest =>
    have hstate := contending_of_contends h
    by_cases hbit : ∃ k, k < 56 ∧ (contestWord n.identity).getLsbD k = false ∧ levels.getLsbD k = true
    · have hgone := contestNode_withdraws levels h hbit
      exact ⟨iff_of_true hgone hbit, fun hne => absurd hgone hne⟩
    · have hkept := (contestNode_stays levels fun hall => hbit hall.2).trans hstate
      exact ⟨iff_of_false (by simp [hkept]) hbit, fun _ => hkept⟩
  case restart =>
    exact ⟨_, rfl, rfl, rfl, rfl, rfl, rfl, rfl, numberReports_payload first payloads,
      fun k hk => numberReports_sequence first payloads hk, fun r h => numberReports_last h⟩
  case safe =>
    unfold outputsSafe
    cases hs : n.state <;> simp

end Sys2Proof.Proofs
end
section
/-! PROOFS. The wired line: frames, characters and the contest. -/

namespace Sys2Proof.Machine

variable {s : State} {x : Transaction}

/-! ## Characters on LINE (R27) -/

theorem charLevels_length (b : Byte) : (charLevels b).length = 10 := by rw [charLevels, List.length_map, charBits_length]

theorem charLevels_first (b : Byte) : (charLevels b)[0]? = some .dominant := by
  rw [charLevels, List.getElem?_map, charBits_first]
  rfl

theorem charLevels_last (b : Byte) : (charLevels b)[9]? = some .recessive := by
  rw [charLevels, List.getElem?_map, charBits_last]
  rfl

theorem charLevels_get (b : Byte) {k : Nat} (hk : k < 8) :
    (charLevels b)[k + 1]? = some (if b.getLsbD k then .recessive else .dominant) := by
  rw [charLevels, List.getElem?_map, charBits_get b hk]
  rfl

theorem readChar_charLevels (b : Byte) : readChar (charLevels b) = some b := by
  have hbits : (charLevels b).map (fun l => decide (l = .recessive)) = charBits b := by
    rw [charLevels, List.map_map]
    exact List.map_id'' (fun x => by cases x <;> rfl) _
  rw [readChar, hbits, readBits_charBits]

theorem readChar_broken {levels : List Level} (h : levels.getLast? = some .dominant) : readChar levels = none := by
  refine readBits_broken ?_
  rw [List.getLast?_map, h]
  rfl

/-! ## What the part drives (R25) -/

theorem frameLevels_length (chars : List Byte) : (frameLevels chars).length = 10 * chars.length :=
  flatten_length charLevels_length chars

theorem partDrives_released (h : ∀ x, s.line.txn = some x → x.phase ≠ .send) (k : Nat) : s.partDrives k = .recessive := by
  unfold State.partDrives
  split
  · exact if_neg (h _ ‹_›)
  · rfl

theorem partDrives_send (hx : s.line.txn = some x) (hp : x.phase = .send) (k : Nat) :
    s.partDrives k = (frameLevels (lineFrameBytes x.frame)).getD k .recessive := by
  simp only [State.partDrives, hx, hp, if_true]

/-! ## The contest, bit time by bit time (R41 to R43) -/

/-- The words of the nodes that contend. -/
def State.contestWords (s : State) : List (BitVec 56) := (s.nodes.filter contends).map fun n => contestWord n.identity

theorem mem_contestWords {w : BitVec 56} :
    w ∈ s.contestWords ↔ ∃ n ∈ s.nodes, contends n = true ∧ contestWord n.identity = w := by
  simp [State.contestWords, and_assoc]

theorem contestSlots_eq (s : State) (slots : BitVec 168) : s.contestSlots slots = slotLevels slots 56 s.contestWords := rfl

theorem contestWire_lead (s : State) (lead : BitVec 2) (slots : BitVec 168) {t : Nat} (ht : t < 2) :
    (s.contestWire lead slots)[t]? = some (outsideDrives (lead.getLsbD t)) := by
  match t, ht with
  | 0, _ => rfl
  | 1, _ => rfl

theorem contestWire_slot (s : State) (lead : BitVec 2) (slots : BitVec 168) (k : Nat) :
    (s.contestWire lead slots)[2 + k]? = (s.contestSlots slots)[k]? := by
  rw [Nat.add_comm]
  rfl

/-- The part reads bit time 3 of each slot. -/
theorem contestReading_iff (s : State) (slots : BitVec 168) {slot : Nat} (h : slot < 56) :
    (s.contestReading slots).getLsbD (55 - slot) = true ↔ (s.contestSlots slots)[3 * slot + 2]? = some .dominant := by
  rw [State.contestReading, getLsbD_readSlots 56 _ _ (Nat.le_refl _) (by simp [contestSlots_eq]),
    show 56 - 1 - (55 - slot) = slot by omega]
  exact and_iff_right (by omega)

theorem contestSlots_separator (s : State) (slots : BitVec 168) {slot : Nat} (h : slot < 56) :
    (s.contestSlots slots)[3 * slot]? = some .dominant ↔ slots.getLsbD (3 * slot) = true := by
  have hslot := slotLevels_dominant slots (j := 0) (by omega) 56 slot s.contestWords h
  simpa [contestSlots_eq, show 55 - (55 - slot) = slot by omega] using hslot

theorem contestSlots_bit (s : State) (slots : BitVec 168) {slot j : Nat} (h : slot < 56) (hj : j = 1 ∨ j = 2) :
    (s.contestSlots slots)[3 * slot + j]? = some .dominant ↔
      slots.getLsbD (3 * slot + j) = true ∨
        ∃ w ∈ s.contestWords, w.getLsbD (55 - slot) = true ∧
          ∀ m, m < slot → w.getLsbD (55 - m) = false → (s.contestReading slots).getLsbD (55 - m) = false := by
  have hslot := slotLevels_dominant slots (j := j) (by omega) 56 slot s.contestWords h
  rw [contestSlots_eq, hslot, show 56 - 1 - slot = 55 - slot by omega, show 55 - (55 - slot) = slot by omega]
  refine or_congr_right ((and_iff_right (by omega)).trans (exists_congr fun w => and_congr_right fun _ =>
    and_congr_right fun _ => forall_congr' fun m => forall_congr' fun hm => imp_congr Iff.rfl ?_))
  rw [← contestSlots_eq, Ne, ← contestReading_iff s slots (by omega : m < 56), Bool.not_eq_true]

/-- R43: what breaks a contest. -/
theorem contestHit_iff (s : State) (lead : BitVec 2) (slots : BitVec 168) : s.contestHit lead slots = true ↔
    (∃ t, t < 2 ∧ (s.contestWire lead slots)[t]? = some .dominant) ∨
      ∃ slot, slot < 56 ∧ (s.contestSlots slots)[3 * slot]? = some .dominant := by
  rw [State.contestHit, Bool.or_eq_true, decide_eq_true_eq,
    separatorHit_iff 56 _ (by simp [contestSlots_eq]), List.mem_iff_getElem?]
  refine or_congr_left (exists_congr fun t => ?_)
  rw [List.getElem?_take]
  by_cases ht : t < 2
  · rw [if_pos ht]
    exact ⟨fun h => ⟨ht, h⟩, And.right⟩
  · rw [if_neg ht]
    exact ⟨nofun, fun h => absurd h.1 ht⟩

/-! ## The reading of a contest that nothing disturbs (R42, R43) -/

/-- A slot that reads dominant withdraws the words that have a 0 there. -/
theorem readSlots_dominant {slots : BitVec 168} {k : Nat} {words : List (BitVec 56)}
    (h : slotLevel slots k words 3 = .dominant) : readSlots (k + 1) (slotLevels slots (k + 1) words) =
      (1 : BitVec 56) <<< k ||| readSlots k (slotLevels slots k (words.filter fun w => w.getLsbD k)) := by
  simp only [slotLevels, readSlots, if_pos h]

theorem readSlots_recessive {slots : BitVec 168} {k : Nat} {words : List (BitVec 56)}
    (h : slotLevel slots k words 3 ≠ .dominant) :
    readSlots (k + 1) (slotLevels slots (k + 1) words) = readSlots k (slotLevels slots k words) := by
  simp only [slotLevels, readSlots, if_neg h]
  exact BitVec.zero_or

/-- With nothing outside, bit time 3 is dominant where a word has a 1. -/
theorem slotLevel_quiet (k : Nat) (words : List (BitVec 56)) :
    slotLevel 0 k words 3 = .dominant ↔ ∃ w ∈ words, w.getLsbD k = true := by
  simp [slotLevel_dominant]

theorem toNat_mod_succ (w : BitVec 56) (k : Nat) :
    w.toNat % 2 ^ (k + 1) = w.toNat % 2 ^ k + if w.getLsbD k then 2 ^ k else 0 := by
  have hbit : w.getLsbD k = decide (w.toNat / 2 ^ k % 2 = 1) := Nat.testBit_eq_decide_div_mod_eq
  rw [Nat.mod_pow_succ, hbit]
  rcases Nat.mod_two_eq_zero_or_one (w.toNat / 2 ^ k) with h | h
  · simp [h]
  · simp [h]

theorem toNat_highBit_or {k : Nat} (hk : k < 56) {r : BitVec 56} (hr : r.toNat < 2 ^ k) :
    ((1 : BitVec 56) <<< k ||| r).toNat = r.toNat + 2 ^ k := by
  have hhigh : ((1 : BitVec 56) <<< k).toNat = 2 ^ k * 1 := by
    rw [BitVec.toNat_shiftLeft, show (1 : BitVec 56).toNat = 1 from rfl, Nat.shiftLeft_eq, Nat.one_mul, Nat.mul_one,
      Nat.mod_eq_of_lt (Nat.pow_lt_pow_right (by decide) hk)]
  rw [BitVec.toNat_or, hhigh, ← Nat.two_pow_add_eq_or_of_lt hr]
  omega

/-- The last `k` slots read the last `k` bits of the word in which these are the highest. -/
theorem readSlots_highest {k : Nat} (hk : k ≤ 56) {words : List (BitVec 56)} (hne : words ≠ []) :
    ∃ w ∈ words, (readSlots k (slotLevels 0 k words)).toNat = w.toNat % 2 ^ k ∧
      ∀ v ∈ words, v.toNat % 2 ^ k ≤ w.toNat % 2 ^ k := by
  induction k generalizing words with
  | zero =>
    obtain ⟨w, hw⟩ := List.exists_mem_of_ne_nil _ hne
    exact ⟨w, hw, by simp [readSlots, Nat.mod_one], fun v _ => by simp [Nat.mod_one]⟩
  | succ k ih =>
    by_cases hd : slotLevel 0 k words 3 = .dominant
    · obtain ⟨u, hu, hbit⟩ := (slotLevel_quiet k words).1 hd
      rw [readSlots_dominant hd]
      obtain ⟨w, hw, hread, hmax⟩ := ih (words := words.filter fun w => w.getLsbD k) (by omega)
        (List.ne_nil_of_mem (List.mem_filter.2 ⟨hu, hbit⟩))
      obtain ⟨hw, hone⟩ := List.mem_filter.1 hw
      have hpos : 0 < 2 ^ k := Nat.two_pow_pos k
      refine ⟨w, hw, ?_, fun v hv => ?_⟩
      · rw [toNat_highBit_or (by omega) (by rw [hread]; exact Nat.mod_lt _ hpos), hread, toNat_mod_succ, if_pos hone]
      · rw [toNat_mod_succ, toNat_mod_succ w, if_pos hone]
        cases hb : v.getLsbD k
        · have hlt := Nat.mod_lt v.toNat hpos
          simp only [Bool.false_eq_true, if_false]
          omega
        · exact Nat.add_le_add_right (hmax v (List.mem_filter.2 ⟨hv, hb⟩)) _
    · have hzero : ∀ v ∈ words, v.getLsbD k = false := fun v hv =>
        Bool.eq_false_iff.2 fun hb => hd ((slotLevel_quiet k words).2 ⟨v, hv, hb⟩)
      have hmod : ∀ v ∈ words, v.toNat % 2 ^ (k + 1) = v.toNat % 2 ^ k := fun v hv => by
        simp [toNat_mod_succ, hzero v hv]
      rw [readSlots_recessive hd]
      obtain ⟨w, hw, hread, hmax⟩ := ih (by omega) hne
      exact ⟨w, hw, by rw [hread, hmod w hw], fun v hv => by rw [hmod v hv, hmod w hw]; exact hmax v hv⟩

theorem readSlots_none (k : Nat) : readSlots k (slotLevels 0 k []) = 0 := by
  induction k with
  | zero => rfl
  | succ k ih =>
    have hquiet : slotLevel 0 k [] 3 ≠ .dominant := fun h => by
      obtain ⟨w, hw, -⟩ := (slotLevel_quiet k []).1 h
      cases hw
    rw [readSlots_recessive hquiet, ih]

end Sys2Proof.Machine

namespace Sys2Proof.Proofs

open Sys2Proof Sys2Proof.Machine

/-- Settles O52: the wired line, its characters, and the contest slot by slot, by induction on the slots that are left. -/
theorem theWiredLine : Obligations.TheWiredLine := by
  refine ⟨fun s k others => ⟨?wired, fun h => partDrives_released (fun x hx => by rw [h] at hx; cases hx) k,
      fun x hx hp => partDrives_released (fun y hy => by rw [← Option.some.inj (hx.symm.trans hy)]; exact hp) k,
      fun x c b bit hx hp hc hbit => ?sends, fun x hx hp hk => ?sent⟩,
    fun b => ⟨charLevels_length b, charLevels_first b, charLevels_last b, fun k => charLevels_get b, readChar_charLevels b⟩,
    fun levels => readChar_broken, fun s lead slots => ?contest, fun s => ⟨fun hall => ?none, fun hany => ?highest⟩⟩
  case wired =>
    rw [State.lineLevel, wired_dominant, List.mem_cons, eq_comm]
  case sends =>
    rw [partDrives_send hx hp]
    exact flatten_getD charLevels_length _ hc hbit
  case sent =>
    rw [partDrives_send hx hp]
    rw [List.getD_eq_getElem?_getD, List.getElem?_eq_none (by rw [frameLevels_length]; exact hk), Option.getD_none]
  case contest =>
    intro wire reading
    refine ⟨contestWire_length s lead slots, fun t ht => ?lead, fun slot hslot => ⟨?separator, fun j hj => ?bits, ?third⟩,
      ?hit⟩
    case lead => simp only [wire, contestWire_lead s lead slots ht, Option.some.injEq, outsideDrives_dominant]
    case separator =>
      rw [contestWire_slot]
      exact contestSlots_separator s slots hslot
    case bits =>
      rw [show 2 + 3 * slot + j = 2 + (3 * slot + j) by omega, contestWire_slot, contestSlots_bit s slots hslot hj]
      refine or_congr_right ⟨?_, ?_⟩
      · rintro ⟨w, hw, hbit⟩
        obtain ⟨n, hn, hc, rfl⟩ := mem_contestWords.1 hw
        exact ⟨n, hn, hc, hbit⟩
      · rintro ⟨n, hn, hc, hbit⟩
        exact ⟨_, mem_contestWords.2 ⟨n, hn, hc, rfl⟩, hbit⟩
    case third =>
      rw [show 2 + 3 * slot + 2 = 2 + (3 * slot + 2) by omega, contestWire_slot]
      exact contestReading_iff s slots hslot
    case hit =>
      rw [contestHit_iff]
      constructor
      · rintro (⟨t, ht, h⟩ | ⟨slot, hslot, h⟩)
        · exact ⟨t, h, .inl ht⟩
        · exact ⟨2 + 3 * slot, (contestWire_slot s lead slots _).trans h, .inr ⟨slot, hslot, rfl⟩⟩
      · rintro ⟨t, h, ht | ⟨slot, hslot, rfl⟩⟩
        · exact .inl ⟨t, ht, h⟩
        · exact .inr ⟨slot, hslot, (contestWire_slot s lead slots _).symm.trans h⟩
  case none =>
    have hwords : s.contestWords = [] := List.eq_nil_iff_forall_not_mem.2 fun w hw => by
      obtain ⟨n, hn, hc, -⟩ := mem_contestWords.1 hw
      rw [hall n hn] at hc
      cases hc
    rw [State.contestReading, contestSlots_eq, hwords, readSlots_none]
  case highest =>
    obtain ⟨n, hn, hc⟩ := hany
    have hmem := mem_contestWords.2 ⟨n, hn, hc, rfl⟩
    obtain ⟨w, hw, hread, hmax⟩ := readSlots_highest (Nat.le_refl 56) (List.ne_nil_of_mem hmem)
    obtain ⟨v, hv, hcv, rfl⟩ := mem_contestWords.1 hw
    have hwhole : ∀ u : BitVec 56, u.toNat % 2 ^ 56 = u.toNat := fun u => Nat.mod_eq_of_lt u.isLt
    refine ⟨v, hv, hcv, BitVec.eq_of_toNat_eq (hread.trans (hwhole _)), fun m hm hcm => ?_⟩
    have hle := hmax _ (mem_contestWords.2 ⟨m, hm, hcm, rfl⟩)
    rwa [hwhole, hwhole] at hle

end Sys2Proof.Proofs
end
